-- ==== Sys2Proof/Word.lean ====
section
/-!
DEFINITION. The plain words and numbers of the K2: bytes, part time, and the numbered things of 00_scope.md.
Nothing here can be mended later, so only names of types stand here.
-/
namespace Sys2Proof

/-- One byte of a message, a record or a packet (R183). -/
abbrev Byte := BitVec 8

/-- Part time: a free-running count of microseconds, 32 bits wide, wrapping to 0 (00_scope.md, Conventions). -/
abbrev PartTime := BitVec 32

/-- A camera number, 0 to 3 (00_scope.md, Conventions). -/
abbrev Camera := Fin 4

/-- A slot number, 0 to 15 (R29). -/
abbrev SlotNo := Fin 16

/-- A view number, 0 to 7 (R71). -/
abbrev ViewNo := Fin 8

/-- A zone number, 0 to 7 (R152). -/
abbrev ZoneNo := Fin 8

end Sys2Proof
end

