-- ==== Sys2Proof/Syntax.lean ====
section
/-!
DEFINITION. The commands of the K2: one constructor of `Instr` for each row of spec/opcode_table.json, in the table's order.

A command is one step of the part, whole and indivisible (95_what_each_step_holds.md). Every command but POWER_ON carries
`t`, the part time at which it falls. The rows that EXECUTE a request carry no further operand: what the executor executes is
the message at the head of the request queue, which is state (R169, R170); the message itself arrives with REQUEST_ARRIVAL.
-/
namespace Sys2Proof

/-- One camera or output pixel: three 10-bit levels (00_scope.md, Picture samples). -/
structure Pixel where
  y : BitVec 10
  cb : BitVec 10
  cr : BitVec 10
  deriving DecidableEq, Repr

/-- Two neighbouring pixels as a link delivers them when they share their chroma (R1). -/
structure PixelPair where
  y0 : BitVec 10
  y1 : BitVec 10
  cb : BitVec 10
  cr : BitVec 10
  deriving DecidableEq, Repr

/-- The samples of a LINE mark, with chroma of its own for every pixel or shared between the pixels of a pair (R1). -/
inductive LineSamples where
  | perPixel (pixels : List Pixel)
  | sharedChroma (pairs : List PixelPair)
  deriving DecidableEq, Repr

/-- A control message as R183 lays it out: the 8-byte header's fields, and the payload that follows it. -/
structure Message where
  cls : Byte
  kind : Byte
  tag : Byte
  length : Byte
  target : Byte
  sub : Byte
  index : BitVec 16
  payload : List Byte
  deriving DecidableEq, Repr

/-- The commands, one constructor per row of spec/opcode_table.json. -/
inductive Instr where
  /-- POWER_ON (R70). -/
  | powerOn
  /-- FRAME_OPEN (R5): a mark on port `c` with the camera frame number `number`. -/
  | frameOpen (t : PartTime) (c : Camera) (number : BitVec 16)
  /-- LINE (R6): a mark with its line number, its samples and the link's check result. -/
  | line (t : PartTime) (c : Camera) (n : BitVec 16) (samples : LineSamples) (good : Bool)
  /-- FRAME_CLOSE (R10): a mark with the line count the camera claims. -/
  | frameClose (t : PartTime) (c : Camera) (claimed : BitVec 16)
  /-- LINK_DOWN (R21). -/
  | linkDown (t : PartTime) (c : Camera)
  /-- LINK_UP (R21). -/
  | linkUp (t : PartTime) (c : Camera)
  /-- LOSS_TIMER_EXPIRY (R20). -/
  | lossTimerExpiry (t : PartTime) (c : Camera)
  /-- LOCK_EVENT_FORMAT (R58). -/
  | lockEventFormat (t : PartTime)
  /-- LOCK_EVENT_RELOCK (R62). -/
  | lockEventRelock (t : PartTime)
  /-- FORMAT_LOCK_EXPIRY (R59). -/
  | formatLockExpiry (t : PartTime)
  /-- RELOCK_EXPIRY (R62). -/
  | relockExpiry (t : PartTime)
  /-- UNLOCK_EVENT (R61). -/
  | unlockEvent (t : PartTime)
  /-- HOLD_TIMER_EXPIRY (R163). -/
  | holdTimerExpiry (t : PartTime) (z : ZoneNo)
  /-- OUTPUT_FRAME_START (R51). -/
  | outputFrameStart (t : PartTime)
  /-- FRAME_DONE (R53). -/
  | frameDone (t : PartTime)
  /-- BLANKING (R54). -/
  | blanking (t : PartTime)
  /-- REQUEST_ARRIVAL (R169): a control message of a class other than SIGNAL. -/
  | requestArrival (t : PartTime) (m : Message)
  /-- SIGNAL_MESSAGE (R115): a control message of class SIGNAL. -/
  | signalMessage (t : PartTime) (m : Message)
  /-- UNDEFINED_REQUEST (R168): execution of a request that no other row names. -/
  | undefinedRequest (t : PartTime)
  /-- STATUS_READ (R175). -/
  | statusRead (t : PartTime)
  /-- TABLE_WRITE_CAMERA_RECORD (R3). -/
  | tableWriteCameraRecord (t : PartTime)
  /-- TABLE_WRITE_VIEW_HEADER (R79). -/
  | tableWriteViewHeader (t : PartTime)
  /-- TABLE_WRITE_TILE (R80). -/
  | tableWriteTile (t : PartTime)
  /-- TABLE_WRITE_OVERLAY_ELEMENT (R138). -/
  | tableWriteOverlayElement (t : PartTime)
  /-- TABLE_WRITE_PALETTE_ENTRY (R138). -/
  | tableWritePaletteEntry (t : PartTime)
  /-- TABLE_WRITE_SPRITE_CHUNK (R138). -/
  | tableWriteSpriteChunk (t : PartTime)
  /-- TABLE_WRITE_PATH_BAND (R138). -/
  | tableWritePathBand (t : PartTime)
  /-- TABLE_WRITE_RULE (R120). -/
  | tableWriteRule (t : PartTime)
  /-- TABLE_WRITE_SELECTION_SETTINGS (R126). -/
  | tableWriteSelectionSettings (t : PartTime)
  /-- TABLE_WRITE_ZONE_RECORD (R154). -/
  | tableWriteZoneRecord (t : PartTime)
  /-- TABLE_WRITE_SIGNAL_TIMEOUTS (R118). -/
  | tableWriteSignalTimeouts (t : PartTime)
  /-- TABLE_WRITE_COUNTERS (R174). -/
  | tableWriteCounters (t : PartTime)
  /-- TABLE_READ_CAMERA_RECORD (R174). -/
  | tableReadCameraRecord (t : PartTime)
  /-- TABLE_READ_VIEW_HEADER (R74). -/
  | tableReadViewHeader (t : PartTime)
  /-- TABLE_READ_TILE (R74). -/
  | tableReadTile (t : PartTime)
  /-- TABLE_READ_OVERLAY_ELEMENT (R140). -/
  | tableReadOverlayElement (t : PartTime)
  /-- TABLE_READ_PALETTE_ENTRY (R140). -/
  | tableReadPaletteEntry (t : PartTime)
  /-- TABLE_READ_SPRITE_CHUNK (R140). -/
  | tableReadSpriteChunk (t : PartTime)
  /-- TABLE_READ_PATH_BAND (R140). -/
  | tableReadPathBand (t : PartTime)
  /-- TABLE_READ_RULE (R120). -/
  | tableReadRule (t : PartTime)
  /-- TABLE_READ_SELECTION_SETTINGS (R174). -/
  | tableReadSelectionSettings (t : PartTime)
  /-- TABLE_READ_ZONE_RECORD (R154). -/
  | tableReadZoneRecord (t : PartTime)
  /-- TABLE_READ_SIGNAL_TIMEOUTS (R118). -/
  | tableReadSignalTimeouts (t : PartTime)
  /-- TABLE_READ_COUNTERS (R175). -/
  | tableReadCounters (t : PartTime)
  /-- VIEW_OPEN_FRESH (R77). -/
  | viewOpenFresh (t : PartTime)
  /-- VIEW_OPEN_EDIT (R78). -/
  | viewOpenEdit (t : PartTime)
  /-- VIEW_CLOSE (R81). -/
  | viewClose (t : PartTime)
  /-- VIEW_WITHDRAW (R83). -/
  | viewWithdraw (t : PartTime)
  /-- VIEW_RESTORE (R84). -/
  | viewRestore (t : PartTime)
  /-- OVERLAY_SWAP (R141, R142). -/
  | overlaySwap (t : PartTime)
  /-- CAMERA_ENABLE (R24). -/
  | cameraEnable (t : PartTime)
  /-- CAMERA_DISABLE (R26). -/
  | cameraDisable (t : PartTime)
  /-- CAMERA_RESTART (R25). -/
  | cameraRestart (t : PartTime)
  /-- VIEW_FORCE (R127). -/
  | viewForce (t : PartTime)
  /-- VIEW_FORCE_RELEASE (R128). -/
  | viewForceRelease (t : PartTime)
  /-- EVENT_TAKE (R180). -/
  | eventTake (t : PartTime)
  /-- FORMAT (R56). -/
  | format (t : PartTime)
  /-- RUN (R66, R67). -/
  | run (t : PartTime)
  /-- RESTART (R172). -/
  | restart (t : PartTime)
  deriving DecidableEq, Repr

end Sys2Proof
end

