-- ==== Sys2Proof/Decode.lean ====
section
/-!
DEFINITION. From words to commands. No row of spec/opcode_table.json gives bits (every row's fields are empty), so no word
spells a command. The one byte layout that reaches the part whole, the control message of R183, is read and written here.
-/
namespace Sys2Proof

/-- The command a table word spells: none, because the table gives no row any bits. -/
def decodeTableWord (_nbits _w : Nat) : Option Instr := none

/-- A control message from the bytes the link delivers: an 8-byte header, little-endian, and the payload (R183).
None when the header is not whole or its length is not the number of bytes that follow. -/
def decodeMessage : List Byte → Option Message
  | cls :: kind :: tag :: length :: target :: sub :: lo :: hi :: payload =>
    if payload.length = length.toNat then some ⟨cls, kind, tag, length, target, sub, hi ++ lo, payload⟩ else none
  | _ => none

/-- The bytes of a control message in the layout of R183. -/
def encodeMessage (m : Message) : List Byte :=
  [m.cls, m.kind, m.tag, m.length, m.target, m.sub, m.index.extractLsb' 0 8, m.index.extractLsb' 8 8] ++ m.payload

end Sys2Proof
end

