-- ==== Sys2Proof/Machine/Bytes.lean ====
section
/-!
DEFINITION. Plain arithmetic the blocks share: intervals of part time, clamping, saturating counters, the arithmetic shift,
and little-endian bytes.
-/
namespace Sys2Proof.Machine

/-- The interval from `since` to `now`: their difference modulo 2^32 (00_scope.md, Part time). -/
def elapsed (now since : PartTime) : Nat := (now - since).toNat

/-- A number brought into lo to hi: below the range it becomes the lower limit, above it the upper (R4). -/
def clampNat (lo hi n : Nat) : Nat := if n < lo then lo else if hi < n then hi else n

/-- `clampNat` for a signed quantity (R4). -/
def clampInt (lo hi n : Int) : Int := if n < lo then lo else if hi < n then hi else n

/-- A 16-bit counter raised by `k`, holding at 65535 (R27, R69, R181). -/
def raise (n : BitVec 16) (k : Nat) : BitVec 16 := BitVec.ofNat 16 (min 65535 (n.toNat + k))

/-- The arithmetic right shift, rounding toward minus infinity (00_scope.md, Numbers). -/
def shiftRightFloor (x : Int) (k : Nat) : Int := x / 2 ^ k

/-- A 10-bit level from a number; every caller's number lies in 0 to 1023 (R108). -/
def level (n : Nat) : BitVec 10 := BitVec.ofNat 10 n

/-- The byte at an offset of a payload. -/
def byteAt (p : List Byte) (i : Nat) : Byte := p.getD i 0

/-- An unsigned byte field. -/
def u8 (p : List Byte) (i : Nat) : Nat := (byteAt p i).toNat

/-- An unsigned little-endian 16-bit field (R183). -/
def u16 (p : List Byte) (i : Nat) : Nat := u8 p i + 256 * u8 p (i + 1)

/-- A two's complement little-endian 16-bit field (10_message_and_record_layouts.md). -/
def s16 (p : List Byte) (i : Nat) : Int := if u16 p i < 32768 then (u16 p i : Int) else (u16 p i : Int) - 65536

/-- The low byte of a number. -/
def byteOf (n : Nat) : Byte := BitVec.ofNat 8 n

/-- A number as a little-endian 16-bit field. -/
def le16 (n : Nat) : List Byte := [byteOf n, byteOf (n / 256)]

/-- A signed number as a little-endian two's complement 16-bit field. -/
def le16s (x : Int) : List Byte := le16 (x % 65536).toNat

/-- A 32-bit word as four little-endian bytes. -/
def le32 (w : BitVec 32) : List Byte := le16 w.toNat ++ le16 (w.toNat / 65536)

/-- A Boolean as the byte or bit 0 or 1. -/
def bit (b : Bool) : Nat := if b then 1 else 0

end Sys2Proof.Machine
end

