-- ==== Sys2Proof/Machine/Table.lean ====
section
/-!
DEFINITION. A table of like things by number, held as the pairs that differ from what an unlisted number reads as: numbers
strictly rising, no entry equal to the default. For bytes this is the list of `Host.Cell` of the sprite area. `d` is always
the value an unlisted number reads as.
-/
namespace Sys2Proof.Machine

/-- A table: (number, entry) pairs in canonical form (`Table.wf`). -/
abbrev Table (α : Type) := List (Nat × α)

/-- The entry of a number. -/
def Table.read {α : Type} (d : α) : Table α → Nat → α
  | [], _ => d
  | (k, v) :: rest, i => if k = i then v else Table.read d rest i

/-- The table without an entry for a number. -/
def Table.erase {α : Type} : Table α → Nat → Table α
  | [], _ => []
  | (k, v) :: rest, i => if k = i then Table.erase rest i else (k, v) :: Table.erase rest i

/-- An entry put in its place in the rising order. -/
def Table.insert {α : Type} : Table α → Nat → α → Table α
  | [], i, v => [(i, v)]
  | (k, w) :: rest, i, v => if i < k then (i, v) :: (k, w) :: rest else (k, w) :: Table.insert rest i v

/-- The table after a number's entry becomes `v`; the default is not listed. -/
def Table.write {α : Type} [DecidableEq α] (d : α) (t : Table α) (i : Nat) (v : α) : Table α :=
  if v = d then Table.erase t i else Table.insert (Table.erase t i) i v

/-- The entries `f lo` to `f (lo + n - 1)` of consecutive numbers. -/
def Table.tabulateFrom {α : Type} [DecidableEq α] (d : α) (f : Nat → α) : Nat → Nat → Table α
  | _, 0 => []
  | lo, n + 1 =>
    if f lo = d then Table.tabulateFrom d f (lo + 1) n else (lo, f lo) :: Table.tabulateFrom d f (lo + 1) n

/-- The table whose numbers 0 to n - 1 read as `f` gives. -/
def Table.tabulate {α : Type} [DecidableEq α] (d : α) (n : Nat) (f : Nat → α) : Table α := Table.tabulateFrom d f 0 n

/-- Consecutive numbers from `i` written with the values of a list, in order. -/
def Table.writeMany {α : Type} [DecidableEq α] (d : α) : Table α → Nat → List α → Table α
  | t, _, [] => t
  | t, i, v :: vs => Table.writeMany d (Table.write d t i v) (i + 1) vs

/-- Canonical from number `lo` on: rising, below `hi`, no entry equal to the default. -/
def Table.wfFrom {α : Type} [DecidableEq α] (d : α) (hi : Nat) : Nat → Table α → Bool
  | _, [] => true
  | lo, (k, v) :: rest => decide (lo ≤ k) && decide (k < hi) && decide (v ≠ d) && Table.wfFrom d hi (k + 1) rest

/-- The canonical form of a table of numbers 0 to n - 1: equal tables are equal data. -/
def Table.wf {α : Type} [DecidableEq α] (d : α) (n : Nat) (t : Table α) : Bool := Table.wfFrom d n 0 t

end Sys2Proof.Machine
end

