-- ==== Sys2Proof/Machine/Blocks.lean ====
section
/-!
DEFINITION. The state of each of the nine blocks, as plain data, with the value each item takes at power-on. The block
diagram of 00_scope.md says which block holds what; each docstring names the rule that gives the item.
-/
namespace Sys2Proof.Machine

/-- One thing for each of the four cameras. -/
structure PerCamera (α : Type) where
  cam0 : α
  cam1 : α
  cam2 : α
  cam3 : α
  deriving DecidableEq, Repr

/-- The thing of camera `c`. -/
def PerCamera.get {α : Type} (p : PerCamera α) (c : Camera) : α :=
  match c with
  | 0 => p.cam0
  | 1 => p.cam1
  | 2 => p.cam2
  | 3 => p.cam3

/-- The four things with camera `c`'s replaced. -/
def PerCamera.set {α : Type} (p : PerCamera α) (c : Camera) (x : α) : PerCamera α :=
  match c with
  | 0 => { p with cam0 := x }
  | 1 => { p with cam1 := x }
  | 2 => { p with cam2 := x }
  | 3 => { p with cam3 := x }

/-- The four things a function of the camera number gives. -/
def PerCamera.build {α : Type} (f : Camera → α) : PerCamera α := ⟨f 0, f 1, f 2, f 3⟩

/-- The four things in order of camera number. -/
def PerCamera.toList {α : Type} (p : PerCamera α) : List α := [p.cam0, p.cam1, p.cam2, p.cam3]

/-! ## Ingest (chapter 1) -/

/-- A set of the six frame flags, numbered as R188 does: 0 SHORT, 1 LONG, 2 LINE_BAD, 3 ORDER, 4 CLAIM, 5 GAP. -/
abbrev FlagSet := BitVec 6

/-- The class of an interval between FRAME_OPENs (R14). -/
inductive CadenceClass where
  | c25 | c30 | c50 | c60 | out
  deriving DecidableEq, Repr

/-- The expected cadence of a camera record (R2). -/
inductive ExpectedCadence where
  | any | c25 | c30 | c50 | c60
  deriving DecidableEq, Repr

/-- The camera record (R2). Durations are in milliseconds, the gain in units of 1/512. -/
structure CameraRecord where
  width : Nat
  height : Nat
  cadence : ExpectedCadence
  staleLimit : Nat
  lossLimit : Nat
  freezeCount : Nat
  keepMask : FlagSet
  haltMask : FlagSet
  gain : Nat
  offset : Int
  slotList : List SlotNo
  deriving DecidableEq, Repr

/-- The defaults of R2: camera c lists slots 4c to 4c + 3, keeps LINE_BAD and CLAIM, halts on nothing. -/
def CameraRecord.initial (c : Camera) : CameraRecord where
  width := 1280
  height := 800
  cadence := .any
  staleLimit := 100
  lossLimit := 250
  freezeCount := 4
  keepMask := 0b010100
  haltMask := 0
  gain := 512
  offset := 0
  slotList := [Fin.ofNat 16 (4 * c.val), Fin.ofNat 16 (4 * c.val + 1), Fin.ofNat 16 (4 * c.val + 2), Fin.ofNat 16 (4 * c.val + 3)]

/-- The channel states of R18. -/
inductive ChannelState where
  | off | acquiring | live | degraded | lost | halted
  deriving DecidableEq, Repr

/-- The reason set of a channel (R18). -/
structure Reasons where
  cadence : Bool
  frozen : Bool
  deriving DecidableEq, Repr

/-- The empty reason set. -/
def Reasons.none : Reasons := ⟨false, false⟩

/-- The cadence tracker (R14). -/
structure CadenceTracker where
  lastOpen : Option PartTime
  lastClass : Option CadenceClass
  run : Nat
  adopted : Option CadenceClass
  outside : Nat
  deriving DecidableEq, Repr

/-- What a cadence reset leaves (R14). -/
def CadenceTracker.cleared : CadenceTracker := ⟨none, none, 0, none, 0⟩

/-- The freeze tracker (R17). -/
structure FreezeTracker where
  previous : Option (BitVec 16)
  run : Nat
  deriving DecidableEq, Repr

/-- The freeze tracker cleared (R17). -/
def FreezeTracker.cleared : FreezeTracker := ⟨none, 0⟩

/-- The filling frame (section 1.3). `highest` is none while no line has been written. -/
structure FillingFrame where
  slot : SlotNo
  number : BitVec 16
  expected : Nat
  highest : Option Nat
  received : Nat
  flags : FlagSet
  signature : BitVec 16
  deriving DecidableEq, Repr

/-- The frame record of a completed frame (R12). -/
structure FrameRecord where
  camera : Camera
  number : BitVec 16
  sequence : BitVec 16
  completedAt : PartTime
  validLines : Nat
  flags : FlagSet
  signature : BitVec 16
  deriving DecidableEq, Repr

/-- The last-frame record of a camera that has completed no frame since power-on: all fields 0 (R27). -/
def FrameRecord.zero : FrameRecord := ⟨0, 0, 0, 0, 0, 0, 0⟩

/-- The five counters of a camera, 16 bits each (R27). -/
structure Counters where
  completed : BitVec 16
  discarded : BitVec 16
  overwritten : BitVec 16
  skipped : BitVec 16
  superseded : BitVec 16
  deriving DecidableEq, Repr

/-- The counters at 0 (R27). -/
def Counters.zero : Counters := ⟨0, 0, 0, 0, 0⟩

/-- One camera channel of ingest. `lossTimer` is the part time it was last started, none while it is stopped (R20). -/
structure Channel where
  record : CameraRecord
  state : ChannelState
  reasons : Reasons
  filling : Option FillingFrame
  cadence : CadenceTracker
  freeze : FreezeTracker
  lossTimer : Option PartTime
  sequence : BitVec 16
  counters : Counters
  lastFrame : FrameRecord
  deriving DecidableEq, Repr

/-- A channel after power-on (R28). -/
def Channel.initial (c : Camera) : Channel :=
  ⟨.initial c, .off, .none, none, .cleared, .cleared, none, 0, .zero, .zero⟩

/-! ## Slot pool (chapter 2) -/

/-- A slot with the items its state gives it (R30). -/
inductive Slot where
  | free
  | filling (owner : Camera)
  | ready (owner : Camera) (frame : FrameRecord) (aged : Bool)
  | held (owner : Camera) (frame : FrameRecord) (orphaned : Bool)
  deriving DecidableEq, Repr

/-- What the camera snapshot records of a usable camera (R42). -/
structure Shot where
  slot : SlotNo
  validLines : Nat
  width : Nat
  height : Nat
  gain : Nat
  offset : Int
  deriving DecidableEq, Repr

/-- The slot pool. `pixels` is the stacked DRAM, one entry a line, numbered slot × 1080 + line: the pixels written there so
far, from column 0 on (R29). `snapshot` is the camera snapshot of the output frame, none for a camera not usable (R42). -/
structure Pool where
  slots : Table Slot
  ready : PerCamera (List SlotNo)
  pixels : Table (List Pixel)
  snapshot : PerCamera (Option Shot)
  deriving DecidableEq, Repr

/-- The pool after power-on (R47), its DRAM as `pixels` says. -/
def Pool.initial (pixels : Table (List Pixel)) : Pool := ⟨[], .build fun _ => [], pixels, .build fun _ => none⟩

/-! ## Views (chapter 4) -/

/-- The four states of a view (R75). -/
inductive ViewState where
  | empty | loading | valid | withdrawn
  deriving DecidableEq, Repr

/-- Black: Y 64, Cb 512, Cr 512 (00_scope.md, Picture samples). -/
def black : Pixel := ⟨64, 512, 512⟩

/-- A view's header (R72). -/
structure ViewHeader where
  columns : Nat
  rows : Nat
  background : Pixel
  fault : Pixel
  hatch : Bool
  label : BitVec 16
  deriving DecidableEq, Repr

/-- The cleared header (R71). -/
def ViewHeader.cleared : ViewHeader := ⟨1, 1, black, black, false, 0⟩

/-- A value at each corner of a tile: top-left, top-right, bottom-left, bottom-right (R73). -/
structure Corners (α : Type) where
  c00 : α
  c10 : α
  c01 : α
  c11 : α
  deriving DecidableEq, Repr

/-- A source coordinate in sixteenths of a camera pixel (R73). -/
structure Coord where
  u : Nat
  v : Nat
  deriving DecidableEq, Repr

/-- A tile record (R73); a camera that is none is NONE. -/
structure TileRecord where
  primary : Option Camera
  secondary : Option Camera
  primaryCorners : Corners Coord
  secondaryCorners : Corners Coord
  weights : Corners Nat
  deriving DecidableEq, Repr

/-- The cleared tile record (R71). -/
def TileRecord.cleared : TileRecord :=
  ⟨none, none, ⟨⟨0, 0⟩, ⟨0, 0⟩, ⟨0, 0⟩, ⟨0, 0⟩⟩, ⟨⟨0, 0⟩, ⟨0, 0⟩, ⟨0, 0⟩, ⟨0, 0⟩⟩, ⟨256, 256, 256, 256⟩⟩

/-- A view (R71). `written` reads true at the members of the tile-written set; tiles are numbered 0 to 1023. -/
structure View where
  state : ViewState
  header : ViewHeader
  headerWritten : Bool
  written : Table Bool
  tiles : Table TileRecord
  deriving DecidableEq, Repr

/-- A view after power-on (R71, R89). -/
def View.initial : View := ⟨.empty, .cleared, false, [], []⟩

/-! ## Selector (chapter 6) -/

/-- Status of a signal table entry (R114). -/
inductive SignalStatus where
  | absent | current | expired
  deriving DecidableEq, Repr

/-- GEAR (R115), coded 0 to 3 in this order (R185). -/
inductive Gear where
  | park | neutral | forward | reverse
  deriving DecidableEq, Repr

/-- INDICATOR (R115), coded 0 to 3 in this order (R185). -/
inductive Indicator where
  | off | nearside | offside | hazard
  deriving DecidableEq, Repr

/-- One entry of the signal table (R114); BODY's eight flags are a byte, numbered as R185 does. -/
structure SignalEntry (α : Type) where
  status : SignalStatus
  value : α
  arrival : PartTime
  deriving DecidableEq, Repr

/-- The five entries (R114). -/
structure SignalTable where
  steer : SignalEntry Int
  speed : SignalEntry Nat
  gear : SignalEntry Gear
  indicator : SignalEntry Indicator
  body : SignalEntry Byte
  deriving DecidableEq, Repr

/-- Every entry ABSENT with value 0 and arrival time 0 (R131); 0 codes PARK and OFF (R185). -/
def SignalTable.cleared : SignalTable :=
  ⟨⟨.absent, 0, 0⟩, ⟨.absent, 0, 0⟩, ⟨.absent, .park, 0⟩, ⟨.absent, .off, 0⟩, ⟨.absent, 0, 0⟩⟩

/-- The signal timeouts in ms (R118). -/
structure SignalTimeouts where
  steer : Nat
  speed : Nat
  gear : Nat
  indicator : Nat
  body : Nat
  deriving DecidableEq, Repr

/-- The defaults of R118. -/
def SignalTimeouts.initial : SignalTimeouts := ⟨300, 300, 1000, 1000, 1000⟩

/-- The signal snapshot of a frame: each reading a value, or none for UNKNOWN (R117). -/
structure SignalSnapshot where
  steer : Option Int
  speed : Option Nat
  gear : Option Gear
  indicator : Option Indicator
  body : Option Byte
  deriving DecidableEq, Repr

/-- A speed or steer condition of a rule: ANY or a range (R119). -/
inductive RangeCondition (α : Type) where
  | any
  | range (low high : α)
  deriving DecidableEq, Repr

/-- A selection rule (R119); gear and indicator sets are numbered as R189 does. -/
structure Rule where
  enable : Bool
  gearSet : BitVec 4
  indicatorSet : BitVec 4
  speed : RangeCondition Nat
  steer : RangeCondition Int
  bodyValue : Byte
  bodyMask : Byte
  target : ViewNo
  immediate : Bool
  deriving DecidableEq, Repr

/-- The cleared rule (R119). R119 gives it an empty body mask and no body value: 0 is the model's choice (DESIGN CHOICE,
notes/assumptions/18.md). -/
def Rule.cleared : Rule := ⟨false, 15, 15, .any, .any, 0, 0, 0, false⟩

/-- The pending candidate and its pending-since part time (R114). -/
structure PendingCandidate where
  view : ViewNo
  since : PartTime
  deriving DecidableEq, Repr

/-- The view selector (R114). `current` is the current view, which in RUN is the view in use (R76); both are none together. -/
structure Selector where
  signals : SignalTable
  timeouts : SignalTimeouts
  snapshot : Option SignalSnapshot
  rules : Table Rule
  defaultView : ViewNo
  dwell : Nat
  current : Option ViewNo
  candidate : Option PendingCandidate
  forced : Option ViewNo
  deriving DecidableEq, Repr

/-- The selector after power-on (R131). -/
def Selector.initial : Selector := ⟨.cleared, .initial, none, [], 0, 300, none, none, none⟩

/-! ## Compositor (chapter 5) -/

/-- An entry of the means table (R91). -/
structure TileMean where
  mean : Nat
  excluded : Bool
  deriving DecidableEq, Repr

/-- The compositor (R91). The camera snapshot of its frame context is `Pool.snapshot`, stored once. -/
inductive Compositor where
  | idle
  | composing (view : ViewNo) (position : Nat × Nat) (means : List TileMean) (rowSums : List Nat)
  deriving DecidableEq, Repr

/-! ## Overlay (chapter 7) -/

/-- A palette entry (R133). -/
structure PaletteEntry where
  colour : Pixel
  alpha : Nat
  deriving DecidableEq, Repr

/-- A palette entry after power-on (R151). -/
def PaletteEntry.cleared : PaletteEntry := ⟨⟨0, 0, 0⟩, 0⟩

/-- A span of a path band (R135). -/
structure Span where
  startRow : Int
  rowCount : Nat
  leftX : Int
  rightX : Int
  deriving DecidableEq, Repr

/-- The kinds of element (R136). -/
inductive ElementKind where
  | none | rect | outline | sprite | path
  deriving DecidableEq, Repr

/-- The conditions of an element (R136). -/
inductive Condition where
  | always
  | zone (z : ZoneNo)
  | cameraFault (c : Camera)
  | indicatorNearside
  | reverse
  | body (flag : Fin 8)
  deriving DecidableEq, Repr

/-- An overlay element (R136). -/
structure Element where
  kind : ElementKind
  condition : Condition
  negate : Bool
  x : Int
  y : Int
  w : Nat
  h : Nat
  thickness : Nat
  palette : Fin 16
  spriteOffset : Nat
  spriteWidth : Nat
  spriteHeight : Nat
  paletteBase : Fin 16
  viewMask : Byte
  blinkValue : Byte
  blinkMask : Byte
  deriving DecidableEq, Repr

/-- The cleared element (R136). -/
def Element.cleared : Element := ⟨.none, .always, false, 0, 0, 0, 0, 1, 0, 0, 1, 1, 0, 0, 0, 0⟩

/-- An overlay bank (R132); the sprite area is memory of bytes, 0 to 16,383 (R134). -/
structure Bank where
  elements : Table Element
  palette : Table PaletteEntry
  sprites : List Host.Cell
  bands : Table (List Span)
  deriving DecidableEq, Repr

/-- A bank after power-on (R151). -/
def Bank.cleared : Bank := ⟨[], [], [], []⟩

/-- The two banks' names (R132). -/
inductive BankId where
  | a | b
  deriving DecidableEq, Repr

/-- A visible element of the frame: its number, and for a PATH element its chosen band (R145). -/
structure DrawItem where
  element : Nat
  band : Nat
  deriving DecidableEq, Repr

/-- The overlay engine (R132). -/
structure Overlay where
  bankA : Bank
  bankB : Bank
  active : BankId
  swapPending : Bool
  drawList : List DrawItem
  budget : Bool
  deriving DecidableEq, Repr

/-- The engine after power-on (R151). -/
def Overlay.initial : Overlay := ⟨.cleared, .cleared, .a, false, [], false⟩

/-! ## Zones (chapter 8) -/

/-- A zone record (R153). -/
structure ZoneRecord where
  enable : Bool
  tx0 : Nat
  tx1 : Nat
  ty0 : Nat
  ty1 : Nat
  viewMask : Byte
  threshold : Nat
  trigger : Nat
  confirm : Nat
  holdTime : Nat
  learnShift : Nat
  deriving DecidableEq, Repr

/-- The defaults of R153. -/
def ZoneRecord.initial : ZoneRecord := ⟨false, 0, 0, 0, 0, 0, 24, 3, 2, 1500, 4⟩

/-- The zone states with what each holds (R157); the hold timer runs in HOLDING alone, from `since` (R152). -/
inductive ZoneState where
  | disarmed
  | settling (left : Nat)
  | quiet
  | confirming (hits : Nat)
  | alert
  | holding (since : PartTime)
  deriving DecidableEq, Repr

/-- A zone: its record, its state and its last changed count (R152). -/
structure Zone where
  record : ZoneRecord
  state : ZoneState
  lastChanged : Nat
  deriving DecidableEq, Repr

/-- A zone after power-on (R166). -/
def Zone.initial : Zone := ⟨.initial, .disarmed, 0⟩

/-- An entry of the background table (R152), the background in units of 1/64 of a level. -/
structure Background where
  level : BitVec 16
  resume : Bool
  deriving DecidableEq, Repr

/-- A background entry after power-on (R166). -/
def Background.initial : Background := ⟨0, true⟩

/-- The zone monitor (R152). -/
structure ZoneMonitor where
  zones : Table Zone
  backgrounds : Table Background
  deriving DecidableEq, Repr

/-! ## Output timing (chapter 3) -/

/-- A display format's number (R48). -/
abbrev FormatNo := Fin 4

/-- The operating state (R65), and the kind of an output frame (R52). -/
inductive OpState where
  | config | run
  deriving DecidableEq, Repr

/-- The kind of a lock attempt (R50). -/
inductive AttemptKind where
  | format | relock
  deriving DecidableEq, Repr

/-- The clock state, with the lock attempt that exists while it is SETTLING; the lock timer runs from `since` (R50). -/
inductive Clock where
  | locked
  | settling (kind : AttemptKind) (target : FormatNo) (since : PartTime)
  deriving DecidableEq, Repr

/-- The position within the output frame in progress (chapter 3): none in progress (after power-on, while SETTLING, and until
output resumes), the active period, after frame done and before blanking, or after blanking. -/
inductive FramePhase where
  | none | active | done | blanked
  deriving DecidableEq, Repr

/-- What last reset the part (R69, R70). -/
inductive RestartCause where
  | power | request
  deriving DecidableEq, Repr

/-- The output timing unit. `startedAt` and `groupPos` place the frame in progress in the repeating group of R49; `frameKind` is the kind
fixed at its start, which stands until the next start (R52). -/
structure OutputUnit where
  format : FormatNo
  clock : Clock
  frameCounter : BitVec 32
  phase : FramePhase
  frameKind : OpState
  startedAt : PartTime
  groupPos : Fin 3
  opState : OpState
  restartCount : BitVec 16
  restartCause : RestartCause
  deriving DecidableEq, Repr

/-- The unit after power-on (R70). -/
def OutputUnit.initial : OutputUnit := ⟨0, .locked, 0, .none, .config, 0, 0, .config, 0, .power⟩

/-! ## Management (chapter 9) -/

/-- The result codes (R173). -/
inductive Result where
  | ok | accepted | malformed | badIndex | badState | locked | busy | incomplete | conflict | gridMismatch | lockFail
  deriving DecidableEq, Repr

/-- A reply waiting in the reply queue (R176). -/
structure Reply where
  tag : Byte
  kind : Byte
  target : Byte
  result : Result
  payload : List Byte
  deriving DecidableEq, Repr

/-- The executor: IDLE, or in an attempt for the FORMAT request it took (R170). -/
inductive Executor where
  | idle
  | attempt (request : Message)
  deriving DecidableEq, Repr

/-- The 43 event latches by number (R178). -/
abbrev Latches := BitVec 43

/-- The management interface (chapter 9). -/
structure Management where
  requests : List Message
  executor : Executor
  replies : List Reply
  latches : Latches
  requestDrops : BitVec 16
  signalDrops : BitVec 16
  deriving DecidableEq, Repr

/-- The interface after power-on (R182). -/
def Management.initial : Management := ⟨[], .idle, [], 0, 0, 0⟩

/-- What the display link carries out of the part: the active lines sent so far of the latest output frame, and the status
packet and the reply packets of the latest blanking (R52, R54). The model's own record of the part's output. -/
structure DisplayPort where
  lines : List (List Pixel)
  status : List Byte
  replies : List (List Byte)
  deriving DecidableEq, Repr

/-- Nothing sent yet. -/
def DisplayPort.initial : DisplayPort := ⟨[], [], []⟩

end Sys2Proof.Machine
end

