-- ==== Sys2Proof/Machine/State.lean ====
section
/-!
DEFINITION. The state of the part: the nine blocks of 00_scope.md, part time, the queue of commands that wait, and the record
of what the display link carried out. Every field is plain data.
-/
namespace Sys2Proof.Machine

/-- The state of the K2. -/
structure State where
  pending : List Instr
  partTime : PartTime
  channels : PerCamera Channel
  pool : Pool
  views : Table View
  selector : Selector
  compositor : Compositor
  overlay : Overlay
  monitor : ZoneMonitor
  output : OutputUnit
  mgmt : Management
  port : DisplayPort
  deriving DecidableEq, Repr

/-- Why the machine would stop with a fault. The spec gives the K2 no fault that stops it, so there is no constructor and no
command raises one (safe: nothing is cut short). -/
inductive Fault where
  deriving DecidableEq, Repr

/-- Why a command would have no meaning. -/
inductive Refusal where
  /-- Raised only by an arm of exec that gives its command no meaning yet; no arm does (safe). -/
  | notModelled (mnemonic : String)
  deriving DecidableEq, Repr

/-- The part right after power-on: R28, R47, R70, R71, R89, R91, R131, R151, R166 and R182. The DRAM lists no pixel, because
R47 gives it no contents. -/
def State.reset : State where
  pending := []
  partTime := 0
  channels := .build Channel.initial
  pool := .initial []
  views := []
  selector := .initial
  compositor := .idle
  overlay := .initial
  monitor := ⟨[], []⟩
  output := .initial
  mgmt := .initial
  port := .initial

end Sys2Proof.Machine
end

