-- ==== Sys2Proof/Machine/Flags.lean ====
section
/-!
DEFINITION. The flags: the six frame flags (R10, R11), the 43 event latches and their five group summaries (R178, R179), and
membership in the small sets that records hold as bytes.
-/
namespace Sys2Proof.Machine

/-- Number n is a member of a set held as bits. -/
def member {w : Nat} (set : BitVec w) (n : Nat) : Bool := set.getLsbD n

/-! ## Frame flags -/

/-- The six frame flags (section 1.3). -/
inductive FrameFlag where
  | short | long | lineBad | order | claim | gap
  deriving DecidableEq, Repr

/-- The number of a flag in masks and records (R188, R189). -/
def FrameFlag.number : FrameFlag → Nat
  | .short => 0
  | .long => 1
  | .lineBad => 2
  | .order => 3
  | .claim => 4
  | .gap => 5

/-- The flag set after a flag joins it. -/
def joinFlag (set : FlagSet) (f : FrameFlag) : FlagSet := set ||| BitVec.twoPow 6 f.number

/-- The flag set after a flag joins it where a condition holds. -/
def joinFlagIf (cond : Bool) (set : FlagSet) (f : FrameFlag) : FlagSet := if cond then joinFlag set f else set

/-- The valid line count: one more than the highest line written, 0 while none is (R9). -/
def FillingFrame.validLines (f : FillingFrame) : Nat :=
  match f.highest with
  | none => 0
  | some h => h + 1

/-- SHORT is due: the valid line count is less than height, or no line was written (R10). -/
def FillingFrame.isShort (f : FillingFrame) (height : Nat) : Bool := decide (f.validLines < height) || f.highest.isNone

/-- The flag set of a frame ended by a FRAME_CLOSE with a claimed count (R10). -/
def FillingFrame.flagsAtClose (f : FillingFrame) (height : Nat) (claimed : BitVec 16) : FlagSet :=
  joinFlagIf (decide (claimed.toNat ≠ f.received)) (joinFlagIf (f.isShort height) f.flags .short) .claim

/-- The flag set of a frame ended by the next FRAME_OPEN (R13). -/
def FillingFrame.flagsAtGap (f : FillingFrame) (height : Nat) : FlagSet :=
  joinFlagIf (f.isShort height) (joinFlag f.flags .gap) .short

/-- The outcomes of a frame (R11). -/
inductive FrameOutcome where
  | halt | complete | discard
  deriving DecidableEq, Repr

/-- The first case of R11 that applies to a flag set. -/
def frameOutcome (r : CameraRecord) (flags : FlagSet) (lineWritten : Bool) : FrameOutcome :=
  if flags &&& r.haltMask ≠ 0 then .halt
  else if flags &&& ~~~ r.keepMask = 0 ∧ lineWritten then .complete
  else .discard

/-! ## Event latches -/

/-- The event latches by name (R178). -/
inductive Latch where
  | camLost (c : Camera)
  | camHalted (c : Camera)
  | camDegraded (c : Camera)
  | camRecovered (c : Camera)
  | camSkipped (c : Camera)
  | zoneRise (z : ZoneNo)
  | zoneFall (z : ZoneNo)
  | viewSwitched
  | forceReleased
  | ruleSkipped
  | lockFail
  | unlocked
  | requestDropped
  | signalDropped
  deriving DecidableEq, Repr

/-- The number of a latch (R178). -/
def Latch.number : Latch → Nat
  | .camLost c => 5 * c.val
  | .camHalted c => 5 * c.val + 1
  | .camDegraded c => 5 * c.val + 2
  | .camRecovered c => 5 * c.val + 3
  | .camSkipped c => 5 * c.val + 4
  | .zoneRise z => 20 + 2 * z.val
  | .zoneFall z => 21 + 2 * z.val
  | .viewSwitched => 36
  | .forceReleased => 37
  | .ruleSkipped => 38
  | .lockFail => 39
  | .unlocked => 40
  | .requestDropped => 41
  | .signalDropped => 42

/-- The latches after a cause is raised: its latch is set, or stays set (R178). -/
def setLatch (l : Latches) (k : Latch) : Latches := l ||| BitVec.twoPow 43 k.number

/-- The latches after a list of causes is raised. -/
def setLatches (l : Latches) (ks : List Latch) : Latches := ks.foldl setLatch l

/-- Some latch numbered lo to hi is set (R179). -/
def anyLatch (l : Latches) (lo hi : Nat) : Bool := (List.range' lo (hi + 1 - lo)).any fun n => l.getLsbD n

/-- The five group summaries as bits 0 to 4: camera, zone, view, clock, management (R179, R188). -/
def groupSummaries (l : Latches) : Nat :=
  bit (anyLatch l 0 19) + 2 * bit (anyLatch l 20 35) + 4 * bit (anyLatch l 36 38) + 8 * bit (anyLatch l 39 40)
    + 16 * bit (anyLatch l 41 42)

end Sys2Proof.Machine
end

