-- ==== Sys2Proof/Machine/Operands.lean ====
section
/-!
DEFINITION. Reading a request: its kind, target and action (R183, R184), the row of the opcode table that executes it, and the
whole-message tests of R168.
-/
namespace Sys2Proof.Machine

/-- The rows of the opcode table that execute a request, in the table's order. -/
inductive RequestRow where
  | undefinedRequest | statusRead
  | tableWriteCameraRecord | tableWriteViewHeader | tableWriteTile | tableWriteOverlayElement | tableWritePaletteEntry
  | tableWriteSpriteChunk | tableWritePathBand | tableWriteRule | tableWriteSelectionSettings | tableWriteZoneRecord
  | tableWriteSignalTimeouts | tableWriteCounters
  | tableReadCameraRecord | tableReadViewHeader | tableReadTile | tableReadOverlayElement | tableReadPaletteEntry
  | tableReadSpriteChunk | tableReadPathBand | tableReadRule | tableReadSelectionSettings | tableReadZoneRecord
  | tableReadSignalTimeouts | tableReadCounters
  | viewOpenFresh | viewOpenEdit | viewClose | viewWithdraw | viewRestore | overlaySwap
  | cameraEnable | cameraDisable | cameraRestart | viewForce | viewForceRelease | eventTake | format | run | restart
  deriving DecidableEq, Repr

/-- The row of a TABLE_WRITE by its target number (R184). -/
def writeRow (target : Byte) : RequestRow :=
  match target.toNat with
  | 1 => .tableWriteCameraRecord
  | 2 => .tableWriteViewHeader
  | 3 => .tableWriteTile
  | 4 => .tableWriteOverlayElement
  | 5 => .tableWritePaletteEntry
  | 6 => .tableWriteSpriteChunk
  | 7 => .tableWritePathBand
  | 8 => .tableWriteRule
  | 9 => .tableWriteSelectionSettings
  | 10 => .tableWriteZoneRecord
  | 11 => .tableWriteSignalTimeouts
  | 12 => .tableWriteCounters
  | _ => .undefinedRequest

/-- The row of a TABLE_READ by its target number (R184). -/
def readRow (target : Byte) : RequestRow :=
  match target.toNat with
  | 1 => .tableReadCameraRecord
  | 2 => .tableReadViewHeader
  | 3 => .tableReadTile
  | 4 => .tableReadOverlayElement
  | 5 => .tableReadPaletteEntry
  | 6 => .tableReadSpriteChunk
  | 7 => .tableReadPathBand
  | 8 => .tableReadRule
  | 9 => .tableReadSelectionSettings
  | 10 => .tableReadZoneRecord
  | 11 => .tableReadSignalTimeouts
  | 12 => .tableReadCounters
  | _ => .undefinedRequest

/-- The row of a view request by its action and mode bytes (R184). A VIEW_OPEN whose mode is undefined is executed, and
refused, by the FRESH row (notes/assumptions/5.md). -/
def viewRow (p : List Byte) : RequestRow :=
  match u8 p 0 with
  | 1 => if u8 p 2 = 1 then .viewOpenEdit else .viewOpenFresh
  | 2 => .viewClose
  | 3 => .viewWithdraw
  | 4 => .viewRestore
  | _ => .undefinedRequest

/-- The row of a CAMERA_CONTROL by its action byte (R184). One whose action is undefined is executed, and refused, by the
ENABLE row (notes/assumptions/5.md). -/
def cameraRow (p : List Byte) : RequestRow :=
  match u8 p 1 with
  | 2 => .cameraDisable
  | 3 => .cameraRestart
  | _ => .cameraEnable

/-- The row that executes a request. A class other than REQUEST, a kind that is not one of the eleven, an undefined target and
an undefined view action belong to UNDEFINED_REQUEST (R168, R174, R184). -/
def requestRow (m : Message) : RequestRow :=
  if m.cls ≠ 1 then .undefinedRequest else
  match m.kind.toNat with
  | 1 => .statusRead
  | 2 => writeRow m.target
  | 3 => readRow m.target
  | 4 => viewRow m.payload
  | 5 => .overlaySwap
  | 6 => cameraRow m.payload
  | 7 => if u8 m.payload 0 = 255 then .viewForceRelease else .viewForce
  | 8 => .eventTake
  | 9 => .format
  | 10 => .run
  | 11 => .restart
  | _ => .undefinedRequest

/-- The length a TABLE_WRITE of each target requires (R184, R186, R187, R189). -/
def writeLengthSuits (target : Byte) (length : Nat) : Bool :=
  match target.toNat with
  | 1 => length == 21
  | 2 => length == 17
  | 3 => length == 42
  | 4 => length == 24
  | 5 => length == 7
  | 6 => decide (1 ≤ length) && decide (length ≤ 64)
  | 7 => length == 57
  | 8 => length == 17
  | 9 => length == 3
  | 10 => length == 13
  | 11 => length == 10
  | 12 => length == 0
  | _ => false

/-- The message's length is the one its kind and target require (R168, R184). -/
def lengthSuits (m : Message) : Bool :=
  match m.kind.toNat with
  | 2 => writeLengthSuits m.target m.length.toNat
  | 3 => m.length.toNat == if m.target = 6 then 1 else 0
  | 4 => m.length.toNat == if u8 m.payload 0 = 1 then 3 else 2
  | 6 => m.length.toNat == 2
  | 7 => m.length.toNat == 1
  | 8 => m.length.toNat == 6
  | 9 => m.length.toNat == 1
  | _ => m.length.toNat == 0

/-- A TABLE_WRITE or TABLE_READ, whose target and, for the overlay targets, bank are read (R183). -/
def isTableRequest (m : Message) : Bool := m.kind == 2 || m.kind == 3

/-- The sub-index names bank A or B where the target is an overlay target (R183). -/
def bankDefined (m : Message) : Bool :=
  !(isTableRequest m && decide (4 ≤ m.target.toNat) && decide (m.target.toNat ≤ 7)) || decide (m.sub.toNat ≤ 1)

/-- The whole-message tests of R168: class, kind, target (with the view action of R184), overlay bank and length. -/
def wholeMessageOk (m : Message) : Bool :=
  decide (requestRow m ≠ .undefinedRequest) && bankDefined m && lengthSuits m

/-- A RESTART that passes the whole-message tests, which needs no reply room (R170). -/
def isRestart (m : Message) : Bool := decide (requestRow m = .restart) && wholeMessageOk m

/-- The bank an overlay target names (R183). -/
def bankOf (m : Message) : BankId := if m.sub = 0 then .a else .b

/-- A number as one of the first n + 1, where it is one of them. -/
def toFin? (n : Nat) [NeZero n] (k : Nat) : Option (Fin n) := if k < n then some (Fin.ofNat n k) else none

end Sys2Proof.Machine
end

