-- ==== Sys2Proof/Machine/Ops.lean ====
section
/-!
DEFINITION. The named operations the commands share: reading and replacing one block of the state, raising a latch, queueing a
reply, and the executor's taking of a request (R170, R171), which is said once here for all the rows that execute one.
-/
namespace Sys2Proof.Machine

/-! ## Blocks -/

/-- The state at a part time. -/
def State.atTime (s : State) (t : PartTime) : State := { s with partTime := t }

/-- The channel of a camera. -/
def State.channel (s : State) (c : Camera) : Channel := s.channels.get c

/-- The state with a camera's channel replaced. -/
def State.setChannel (s : State) (c : Camera) (ch : Channel) : State := { s with channels := s.channels.set c ch }

/-- The state with the slot pool replaced. -/
def State.setPool (s : State) (p : Pool) : State := { s with pool := p }

/-- The state with the selector replaced. -/
def State.setSelector (s : State) (x : Selector) : State := { s with selector := x }

/-- The state with the compositor replaced. -/
def State.setCompositor (s : State) (x : Compositor) : State := { s with compositor := x }

/-- The state with the overlay engine replaced. -/
def State.setOverlay (s : State) (x : Overlay) : State := { s with overlay := x }

/-- The state with the zone monitor replaced. -/
def State.setMonitor (s : State) (x : ZoneMonitor) : State := { s with monitor := x }

/-- The state with the output timing unit replaced. -/
def State.setOutput (s : State) (x : OutputUnit) : State := { s with output := x }

/-- The state with the management interface replaced. -/
def State.setMgmt (s : State) (x : Management) : State := { s with mgmt := x }

/-- The state with what the display link carried out replaced. -/
def State.setPort (s : State) (x : DisplayPort) : State := { s with port := x }

/-- The view of a number (R71). -/
def State.view (s : State) (v : ViewNo) : View := Table.read View.initial s.views v.val

/-- The state with a view replaced. -/
def State.setView (s : State) (v : ViewNo) (x : View) : State :=
  { s with views := Table.write View.initial s.views v.val x }

/-- The zone of a number (R152). -/
def ZoneMonitor.zone (m : ZoneMonitor) (z : ZoneNo) : Zone := Table.read Zone.initial m.zones z.val

/-- The monitor with a zone replaced. -/
def ZoneMonitor.setZone (m : ZoneMonitor) (z : ZoneNo) (x : Zone) : ZoneMonitor :=
  { m with zones := Table.write Zone.initial m.zones z.val x }

/-- The background entry of a tile index (R152). -/
def ZoneMonitor.background (m : ZoneMonitor) (tile : Nat) : Background := Table.read Background.initial m.backgrounds tile

/-- The part is in RUN (R65). -/
def State.isRun (s : State) : Bool := decide (s.output.opState = .run)

/-- A view is in use (R76). -/
def State.inUse (s : State) (v : ViewNo) : Bool := decide (s.selector.current = some v)

/-- A rule of the selector (R119). -/
def Selector.rule (x : Selector) (i : Nat) : Rule := Table.read Rule.cleared x.rules i

/-- A slot of the pool (R30). -/
def Pool.slot (p : Pool) (k : SlotNo) : Slot := Table.read .free p.slots k.val

/-- The pool with a slot's state replaced. -/
def Pool.setSlot (p : Pool) (k : SlotNo) (x : Slot) : Pool := { p with slots := Table.write .free p.slots k.val x }

/-- The pool with a camera's ready list replaced. -/
def Pool.setReady (p : Pool) (c : Camera) (l : List SlotNo) : Pool := { p with ready := p.ready.set c l }

/-- A bank of the overlay engine (R132). -/
def Overlay.bank (o : Overlay) : BankId → Bank
  | .a => o.bankA
  | .b => o.bankB

/-- The engine with a bank replaced. -/
def Overlay.setBank (o : Overlay) (which : BankId) (x : Bank) : Overlay :=
  match which with
  | .a => { o with bankA := x }
  | .b => { o with bankB := x }

/-- The other bank (R132). -/
def BankId.other : BankId → BankId
  | .a => .b
  | .b => .a

/-- The banks change roles and no swap is pending (R142, R143). -/
def Overlay.swapped (o : Overlay) : Overlay := { o with active := o.active.other, swapPending := false }

/-! ## Latches and replies -/

/-- The state after some causes are raised (R178). -/
def State.raiseLatches (s : State) (ks : List Latch) : State :=
  s.setMgmt { s.mgmt with latches := setLatches s.mgmt.latches ks }

/-- The state after one cause is raised (R178). -/
def State.raiseLatch (s : State) (k : Latch) : State := s.raiseLatches [k]

/-- The causes a condition raises. -/
def latchIf (cond : Bool) (k : Latch) : List Latch := if cond then [k] else []

/-- The reply to a request: its tag and kind, and its target for TABLE_WRITE and TABLE_READ, as received (R176, R188). -/
def replyTo (m : Message) (r : Result) (payload : List Byte) : Reply :=
  ⟨m.tag, m.kind, if isTableRequest m then m.target else 0, r, payload⟩

/-- The reply to a request enters the reply queue as the newest entry (R171, R176). -/
def State.pushReply (s : State) (m : Message) (r : Result) (payload : List Byte) : State :=
  s.setMgmt { s.mgmt with replies := s.mgmt.replies ++ [replyTo m r payload] }

/-! ## The executor -/

/-- The taking condition: IDLE, a request waits, and the reply queue has room or the head is a RESTART (R170). -/
def canTake (s : State) : Bool :=
  match s.mgmt.executor, s.mgmt.requests with
  | .idle, m :: _ => decide (s.mgmt.replies.length < 16) || isRestart m
  | _, _ => false

/-- The executor takes the request at the head where it can and where the row is the one that executes it (R170). -/
def takeRequest (row : RequestRow) (s : State) : Option (Message × State) :=
  match s.mgmt.requests with
  | [] => none
  | m :: rest =>
    if canTake s && decide (requestRow m = row) then some (m, s.setMgmt { s.mgmt with requests := rest }) else none

/-- What executing a request makes of the state, and its reply's result and payload, none where no reply is made now. -/
structure Answer where
  state : State
  reply : Option (Result × List Byte)

/-- A refused request changes nothing (R168, R173). -/
def refuse (s : State) (r : Result) : Answer := ⟨s, some (r, [])⟩

/-- A request whose effect is made, with a payload. -/
def done (s : State) (payload : List Byte) : Answer := ⟨s, some (.ok, payload)⟩

/-- One row's execution at a part time: where the executor takes the request, the whole-message tests (R168), then the row's
own tests and effect, then the reply (R171). Where it takes none it waits, and only part time has passed (R170). -/
def executeRequest (row : RequestRow) (t : PartTime) (effect : Message → State → Answer) (s : State) : State :=
  match takeRequest row (s.atTime t) with
  | none => s.atTime t
  | some (m, s1) =>
    if wholeMessageOk m then
      match effect m s1 with
      | ⟨s2, some (r, payload)⟩ => s2.pushReply m r payload
      | ⟨s2, none⟩ => s2
    else s1.pushReply m .malformed []

end Sys2Proof.Machine
end

