-- ==== Sys2Proof/Machine/Pool.lean ====
section
/-!
DEFINITION. The slot pool (chapter 2): the pixels in the slots, allocation, completion, leaving service, the work of an output
frame start, and settling.
-/
namespace Sys2Proof.Machine

/-- The sixteen slots in order of number. -/
def allSlots : List SlotNo := [0, 1, 2, 3, 4, 5, 6, 7, 8, 9, 10, 11, 12, 13, 14, 15]

/-- The four cameras in order of number. -/
def allCameras : List Camera := [0, 1, 2, 3]

/-- The pool with every slot's state replaced. -/
def Pool.mapSlots (p : Pool) (f : Slot → Slot) : Pool :=
  { p with slots := Table.tabulate .free 16 fun k => f (Table.read .free p.slots k) }

/-! ## Pixels (R29) -/

/-- What a pixel never written reads as (notes/assumptions/4.md); the spec lets no one read one (R101). -/
def unwrittenPixel : Pixel := ⟨0, 0, 0⟩

/-- Where line l of a slot lies in the DRAM: a slot has room for 1080 lines (R29). -/
def rowNumber (k : SlotNo) (l : Nat) : Nat := k.val * 1080 + l

/-- The pixels written so far in a line of a slot, from column 0. -/
def Pool.row (p : Pool) (k : SlotNo) (l : Nat) : List Pixel := Table.read [] p.pixels (rowNumber k l)

/-- The pixel at a column and line of a slot. -/
def Pool.pixel (p : Pool) (k : SlotNo) (column l : Nat) : Pixel := (p.row k l).getD column unwrittenPixel

/-- The first `width` pixels of a line of a slot. -/
def Pool.readLine (p : Pool) (k : SlotNo) (l width : Nat) : List Pixel :=
  (p.row k l ++ List.replicate width unwrittenPixel).take width

/-- A line written from column 0; what lies beyond it keeps its old pixels (R29). -/
def Pool.writeLine (p : Pool) (k : SlotNo) (l : Nat) (px : List Pixel) : Pool :=
  { p with pixels := Table.write [] p.pixels (rowNumber k l) (px ++ (p.row k l).drop px.length) }

/-! ## Allocation (R33 to R35) -/

/-- The lowest slot number of a list. -/
def lowestSlot : List SlotNo → Option SlotNo
  | [] => none
  | k :: rest =>
    match lowestSlot rest with
    | none => some k
    | some j => some (if k.val ≤ j.val then k else j)

/-- What the pool answers when ingest asks for a slot (R33). -/
inductive Allocation where
  | free (k : SlotNo)
  | overwrite (k : SlotNo) (rest : List SlotNo)
  | skip
  deriving DecidableEq, Repr

/-- The first case of R33 that applies: the lowest FREE slot of the list, else the oldest READY slot, else none. -/
def Pool.allocation (p : Pool) (c : Camera) (list : List SlotNo) : Allocation :=
  match lowestSlot (list.filter fun k => decide (p.slot k = .free)) with
  | some k => .free k
  | none =>
    match p.ready.get c with
    | k :: rest => .overwrite k rest
    | [] => .skip

/-- The slot given to a camera's new frame, none for a skip, with the slot FILLING, the oldest entry overwritten (R34), or the
skip counted and CAM_SKIPPED latched (R35). -/
def State.allocate (s : State) (c : Camera) : State × Option SlotNo :=
  let ch := s.channel c
  match s.pool.allocation c ch.record.slotList with
  | .free k => (s.setPool (s.pool.setSlot k (.filling c)), some k)
  | .overwrite k rest =>
    ((s.setPool ((s.pool.setSlot k (.filling c)).setReady c rest)).setChannel c
      { ch with counters := { ch.counters with overwritten := raise ch.counters.overwritten 1 } }, some k)
  | .skip =>
    ((s.setChannel c { ch with counters := { ch.counters with skipped := raise ch.counters.skipped 1 } }).raiseLatch
      (.camSkipped c), none)

/-! ## Completion and leaving service (R36 to R38) -/

/-- A completed frame's slot becomes READY and joins its camera's ready list as the newest entry (R36). -/
def Pool.complete (p : Pool) (k : SlotNo) (frame : FrameRecord) : Pool :=
  (p.setSlot k (.ready frame.camera frame false)).setReady frame.camera (p.ready.get frame.camera ++ [k])

/-- A slot after its camera's channel left service: FILLING and READY go FREE, HELD is marked orphaned (R37, R38). -/
def Slot.leave (c : Camera) : Slot → Slot
  | .free => .free
  | .filling owner => if owner = c then .free else .filling owner
  | .ready owner frame aged => if owner = c then .free else .ready owner frame aged
  | .held owner frame orphaned => .held owner frame (orphaned || decide (owner = c))

/-- The pool after a camera's channel left service (R23, R37). -/
def Pool.leave (p : Pool) (c : Camera) : Pool := (p.mapSlots (Slot.leave c)).setReady c []

/-! ## At an output frame start (R39 to R42) -/

/-- A slot at an output frame start: a READY slot older than 5,000,000 µs is marked AGED (R39). -/
def Slot.age (now : PartTime) : Slot → Slot
  | .ready owner frame aged => .ready owner frame (aged || decide (5000000 < elapsed now frame.completedAt))
  | other => other

/-- The AGED marks of an output frame start (R39). -/
def Pool.markAged (p : Pool) (now : PartTime) : Pool := p.mapSlots (Slot.age now)

/-- The channel is LIVE, or DEGRADED with CADENCE as its only reason (R40). -/
def Channel.serves (ch : Channel) : Bool :=
  match ch.state with
  | .live => true
  | .degraded => decide (ch.reasons = ⟨true, false⟩)
  | _ => false

/-- The newest entry of a camera's ready list with its frame, where it is fresh: not AGED, and no older than the stale limit (R40). -/
def Pool.freshFrame (p : Pool) (now : PartTime) (c : Camera) (staleLimit : Nat) : Option (SlotNo × FrameRecord) :=
  match (p.ready.get c).getLast? with
  | none => none
  | some k =>
    match p.slot k with
    | .ready _ frame aged =>
      if aged = false ∧ elapsed now frame.completedAt ≤ staleLimit * 1000 then some (k, frame) else none
    | _ => none

/-- The slot and frame that would be held for a camera, none when the camera is not usable (R40). -/
def State.usableFrame (s : State) (c : Camera) : Option (SlotNo × FrameRecord) :=
  if (s.channel c).serves then s.pool.freshFrame s.partTime c (s.channel c).record.staleLimit else none

/-- Slots that go FREE, each losing its owner, record and marks (R30). -/
def Pool.freeSlots (p : Pool) (l : List SlotNo) : Pool := l.foldl (fun q k => q.setSlot k .free) p

/-- What the snapshot records of a usable camera (R42). -/
def shotOf (k : SlotNo) (frame : FrameRecord) (r : CameraRecord) : Shot :=
  ⟨k, frame.validLines, r.width, r.height, r.gain, r.offset⟩

/-- One camera at an output frame start in RUN: its newest frame held and the older ones superseded where it is usable (R41), and
its entry of the camera snapshot (R42). -/
def State.holdCamera (s : State) (c : Camera) : State :=
  let ch := s.channel c
  match s.usableFrame c with
  | none => s.setPool { s.pool with snapshot := s.pool.snapshot.set c none }
  | some (k, frame) =>
    let older := (s.pool.ready.get c).dropLast
    let held := ((s.pool.freeSlots older).setSlot k (.held c frame false)).setReady c []
    (s.setPool { held with snapshot := held.snapshot.set c (some (shotOf k frame ch.record)) }).setChannel c
      { ch with counters := { ch.counters with superseded := raise ch.counters.superseded older.length } }

/-- The hold and the camera snapshot of an output frame start in RUN (R40 to R42). -/
def State.holdAll (s : State) : State := allCameras.foldl State.holdCamera s

/-- The empty camera snapshot: no camera usable (R42). -/
def Pool.noSnapshot (p : Pool) : Pool := { p with snapshot := .build fun _ => none }

/-! ## Settling and reset (R44, R45, R47) -/

/-- One held slot settled: FREE when it is orphaned or its camera has a later READY frame, else retained (R44). -/
def Pool.settleSlot (p : Pool) (k : SlotNo) : Pool :=
  match p.slot k with
  | .held owner frame orphaned =>
    if orphaned = true ∨ p.ready.get owner ≠ [] then p.setSlot k .free
    else (p.setSlot k (.ready owner frame false)).setReady owner [k]
  | _ => p

/-- Every held slot settled at frame done or at an abandon by an unlock (R44, R45). -/
def Pool.settle (p : Pool) : Pool := allSlots.foldl Pool.settleSlot p

/-- The pool after a reset: every slot FREE, every ready list empty, the pixels as they are (R47). -/
def Pool.cleared (p : Pool) : Pool := .initial p.pixels

end Sys2Proof.Machine
end

