-- ==== Sys2Proof/Machine/Ingest.lean ====
section
/-!
DEFINITION. Camera ports and frame ingest (chapter 1): the five marks, the loss timer, and the camera controls' effect on a
channel.
-/
namespace Sys2Proof.Machine

/-! ## Cadence (R14 to R16) -/

/-- The class of an interval in µs, bounds inclusive (R14). -/
def intervalClass (us : Nat) : CadenceClass :=
  if 15900 ≤ us ∧ us ≤ 17400 then .c60
  else if 19000 ≤ us ∧ us ≤ 21000 then .c50
  else if 32000 ≤ us ∧ us ≤ 34700 then .c30
  else if 38500 ≤ us ∧ us ≤ 41500 then .c25
  else .out

/-- The class of the interval a FRAME_OPEN ends, none when no FRAME_OPEN came before it (R14). -/
def CadenceTracker.measured (k : CadenceTracker) (t : PartTime) : Option CadenceClass :=
  k.lastOpen.map fun t0 => intervalClass (elapsed t t0)

/-- The tracker after a FRAME_OPEN: the run count, the last class and the last time (R14). -/
def CadenceTracker.step (k : CadenceTracker) (t : PartTime) : CadenceTracker :=
  match k.measured t with
  | none => { k with lastOpen := some t }
  | some cls =>
    { k with lastOpen := some t, lastClass := some cls, run := if k.lastClass = some cls then k.run + 1 else 1 }

/-- A class equals the expected cadence, or is any class but OUT when that is ANY (R15). -/
def qualifies (expected : ExpectedCadence) (cls : CadenceClass) : Bool :=
  match expected, cls with
  | .any, .out => false
  | .any, _ => true
  | .c25, .c25 => true
  | .c30, .c30 => true
  | .c50, .c50 => true
  | .c60, .c60 => true
  | _, _ => false

/-- The channel is LIVE or DEGRADED, the states between which its reason set moves it (R19). -/
def Channel.inUse (ch : Channel) : Bool := decide (ch.state = .live) || decide (ch.state = .degraded)

/-- A LIVE or DEGRADED channel with a new reason set: LIVE when it is empty, DEGRADED otherwise (R19). -/
def Channel.withReasons (ch : Channel) (r : Reasons) : Channel :=
  if ch.inUse then { ch with state := if r = .none then .live else .degraded, reasons := r } else ch

/-- The outside count of R16 after an interval; at 2 the adopted class is dropped and CADENCE joins the reason set. -/
def Channel.cadenceLoss (c : Camera) (ch : Channel) (measured : Option CadenceClass) : Channel × List Latch :=
  match measured, ch.cadence.adopted with
  | some cls, some adopted =>
    if cls = adopted then ({ ch with cadence := { ch.cadence with outside := 0 } }, [])
    else if ch.cadence.outside + 1 < 2 then ({ ch with cadence := { ch.cadence with outside := ch.cadence.outside + 1 } }, [])
    else
      (({ ch with cadence := { ch.cadence with adopted := none, outside := 0 } }).withReasons { ch.reasons with cadence := true },
        latchIf ch.inUse (.camDegraded c))
  | _, _ => (ch, [])

/-- Adoption (R15): with no adopted class, a run of 4 and a class that qualifies, the last class is adopted; an ACQUIRING
channel goes LIVE, and a DEGRADED one loses CADENCE. -/
def Channel.cadenceAdoption (c : Camera) (ch : Channel) : Channel × List Latch :=
  match ch.cadence.adopted, ch.cadence.lastClass with
  | none, some cls =>
    if 4 ≤ ch.cadence.run ∧ qualifies ch.record.cadence cls then
      let adopted := { ch with cadence := { ch.cadence with adopted := some cls, outside := 0 } }
      match ch.state, ch.reasons.cadence with
      | .acquiring, _ => ({ adopted with state := .live }, [.camRecovered c])
      | .degraded, true =>
        (adopted.withReasons { ch.reasons with cadence := false }, latchIf (!ch.reasons.frozen) (.camRecovered c))
      | _, _ => (adopted, [])
    else (ch, [])
  | _, _ => (ch, [])

/-- The cadence step of a FRAME_OPEN: the tracker (R14), the loss of the adopted class (R16), then adoption (R15). -/
def Channel.cadenceStep (c : Camera) (t : PartTime) (ch : Channel) : Channel × List Latch :=
  let measured := ch.cadence.measured t
  let stepped := { ch with cadence := ch.cadence.step t }
  let lost := stepped.cadenceLoss c measured
  let adopted := lost.1.cadenceAdoption c
  (adopted.1, lost.2 ++ adopted.2)

/-! ## Freeze (R17) -/

/-- The freeze tracker after a completion with a signature (R17). -/
def FreezeTracker.step (k : FreezeTracker) (signature : BitVec 16) : FreezeTracker :=
  ⟨some signature, if k.previous = some signature then k.run + 1 else 0⟩

/-- The signatures differed: there was a previous one, and it is not this one (R17). -/
def FreezeTracker.differed (k : FreezeTracker) (signature : BitVec 16) : Bool :=
  match k.previous with
  | none => false
  | some p => decide (p ≠ signature)

/-- The freeze check of a completion (R17). -/
def Channel.freezeCheck (c : Camera) (ch : Channel) (signature : BitVec 16) : Channel × List Latch :=
  if ch.record.freezeCount = 0 then (ch, []) else
  let stepped := { ch with freeze := ch.freeze.step signature }
  if ch.inUse = true ∧ ch.reasons.frozen = false ∧ ch.record.freezeCount ≤ stepped.freeze.run then
    (stepped.withReasons { ch.reasons with frozen := true }, [.camDegraded c])
  else if ch.state = .degraded ∧ ch.reasons.frozen = true ∧ ch.freeze.differed signature = true then
    (stepped.withReasons { ch.reasons with frozen := false }, latchIf (!ch.reasons.cadence) (.camRecovered c))
  else (stepped, [])

/-! ## Leaving service and the ends of a frame (R11 to R13, R23) -/

/-- A channel leaves service for a state: its frames and slots by R37, its reason set emptied, its loss timer stopped, and its
cadence tracker reset when it goes to LOST (R23). -/
def State.leaveService (s : State) (c : Camera) (dest : ChannelState) : State :=
  let ch := s.channel c
  (s.setPool (s.pool.leave c)).setChannel c
    { ch with
      state := dest
      reasons := .none
      filling := none
      lossTimer := none
      cadence := if dest = .lost then .cleared else ch.cadence }

/-- A frame completes (R12): its slot READY, its record the last-frame record, the sequence and completed counts raised, and the
freeze check made (R17). -/
def State.completeFrame (s : State) (c : Camera) (f : FillingFrame) (flags : FlagSet) : State :=
  let ch := s.channel c
  let frame : FrameRecord := ⟨c, f.number, ch.sequence, s.partTime, f.validLines, flags, f.signature⟩
  let checked := Channel.freezeCheck c
    { ch with
      filling := none
      sequence := ch.sequence + 1
      counters := { ch.counters with completed := raise ch.counters.completed 1 }
      lastFrame := frame } f.signature
  ((s.setPool (s.pool.complete f.slot frame)).setChannel c checked.1).raiseLatches checked.2

/-- A frame halts its channel (R11): its slot FREE, the channel HALTED, CAM_HALTED latched. -/
def State.haltFrame (s : State) (c : Camera) (f : FillingFrame) : State :=
  ((s.setPool (s.pool.setSlot f.slot .free)).leaveService c .halted).raiseLatch (.camHalted c)

/-- The discarded counter raised by 1 (R27). -/
def Channel.countDiscard (ch : Channel) : Channel :=
  { ch with counters := { ch.counters with discarded := raise ch.counters.discarded 1 } }

/-- A frame is discarded at its close (R11): its slot FREE, the discarded counter raised. -/
def State.discardFrame (s : State) (c : Camera) (f : FillingFrame) : State :=
  (s.setPool (s.pool.setSlot f.slot .free)).setChannel c { (s.channel c).countDiscard with filling := none }

/-! ## FRAME_OPEN (R5, R13, R22) -/

/-- A new filling frame in a slot (R5). -/
def FillingFrame.start (k : SlotNo) (number : BitVec 16) : FillingFrame := ⟨k, number, 0, none, 0, 0, 0⟩

/-- A new frame starts in a slot the pool gives, or is skipped (R5). -/
def State.startFrame (s : State) (c : Camera) (number : BitVec 16) : State :=
  let given := s.allocate c
  given.1.setChannel c { given.1.channel c with filling := given.2.map fun k => FillingFrame.start k number }

/-- The cadence step and the restart of the loss timer (R14, R20). -/
def State.takeOpen (s : State) (c : Camera) : State :=
  let stepped := (s.channel c).cadenceStep c s.partTime
  (s.setChannel c { stepped.1 with lossTimer := some s.partTime }).raiseLatches stepped.2

/-- A FRAME_OPEN that cuts a filling frame off (R13). -/
def State.gapOpen (s : State) (c : Camera) (f : FillingFrame) (number : BitVec 16) : State :=
  let r := (s.channel c).record
  let flags := f.flagsAtGap r.height
  match frameOutcome r flags f.highest.isSome with
  | .halt => s.haltFrame c f
  | .complete => ((s.completeFrame c f flags).takeOpen c).startFrame c number
  | .discard =>
    let opened := (s.setChannel c (s.channel c).countDiscard).takeOpen c
    opened.setChannel c { opened.channel c with filling := some (FillingFrame.start f.slot number) }

/-- A FRAME_OPEN that wakes a LOST channel (R22). -/
def State.wakeOpen (s : State) (c : Camera) (number : BitVec 16) : State :=
  ((s.setChannel c { s.channel c with state := .acquiring, freeze := .cleared }).takeOpen c).startFrame c number

/-- The channel acts on every mark: ACQUIRING, LIVE or DEGRADED (R1). -/
def Channel.ingests (ch : Channel) : Bool :=
  match ch.state with
  | .acquiring | .live | .degraded => true
  | _ => false

/-- FRAME_OPEN (R1, R5, R13, R22). -/
def State.frameOpen (s : State) (c : Camera) (number : BitVec 16) : State :=
  let ch := s.channel c
  if ch.ingests then
    match ch.filling with
    | some f => s.gapOpen c f number
    | none => (s.takeOpen c).startFrame c number
  else if ch.state = .lost then s.wakeOpen c number
  else s

/-! ## LINE (R6 to R9) -/

/-- The pixels of a line, shared chroma written into both pixels of a pair (R1). -/
def pixelsOf : LineSamples → List Pixel
  | .perPixel px => px
  | .sharedChroma pairs => pairs.flatMap fun q => [⟨q.y0, q.cb, q.cr⟩, ⟨q.y1, q.cb, q.cr⟩]

/-- A line with every component of every pixel equal to 512 (R7, R8). -/
def greyLine (width : Nat) : List Pixel := List.replicate width ⟨512, 512, 512⟩

/-- The luma of columns 0, 8, 16 and so on below width, added up (R9). -/
def signatureOfLine (width : Nat) (px : List Pixel) : Nat :=
  ((List.range ((width + 7) / 8)).map fun i => (px.getD (8 * i) unwrittenPixel).y.toNat).sum

/-- The filling frame after line n is written with some pixels (R9). -/
def FillingFrame.wrote (f : FillingFrame) (width n : Nat) (px : List Pixel) : FillingFrame :=
  { f with
    highest := some n
    signature := if n % 8 = 0 then f.signature + BitVec.ofNat 16 (signatureOfLine width px) else f.signature }

/-- Line n of the filling frame written with some pixels (R9). -/
def fillLine (width n : Nat) (px : List Pixel) (x : Pool × FillingFrame) : Pool × FillingFrame :=
  (x.1.writeLine x.2.slot n px, x.2.wrote width n px)

/-- The last line written, or grey where none is (R7). -/
def lastLine (width : Nat) (x : Pool × FillingFrame) : List Pixel :=
  match x.2.highest with
  | none => greyLine width
  | some h => x.1.readLine x.2.slot h width

/-- Missing lines from `from` on, `count` of them, in ascending order, each a copy of the last line written before it (R7). -/
def fillMissing (width : Nat) : Nat → Nat → Pool × FillingFrame → Pool × FillingFrame
  | 0, _, x => x
  | count + 1, n, x => fillMissing width count (n + 1) (fillLine width n (lastLine width x) x)

/-- Line n − 1 as it stands in the slot, or grey for line 0 (R8). -/
def lineAbove (width n : Nat) (x : Pool × FillingFrame) : List Pixel :=
  if n = 0 then greyLine width else x.1.readLine x.2.slot (n - 1) width

/-- A line that passes the LONG and ORDER tests: missing lines filled (R7), then written or concealed (R8). -/
def takeLine (width n : Nat) (px : List Pixel) (good : Bool) (x : Pool × FillingFrame) : Pool × FillingFrame :=
  let filled := fillMissing width (n - x.2.expected) x.2.expected x
  let written :=
    if good = true ∧ px.length = width then fillLine width n px filled
    else fillLine width n (lineAbove width n filled) (filled.1, { filled.2 with flags := joinFlag filled.2.flags .lineBad })
  (written.1, { written.2 with expected := n + 1 })

/-- A LINE mark taken while a frame is filling (R6). -/
def lineMark (r : CameraRecord) (n : Nat) (px : List Pixel) (good : Bool) (x : Pool × FillingFrame) : Pool × FillingFrame :=
  let f := { x.2 with received := x.2.received + 1 }
  if r.height ≤ n then (x.1, { f with flags := joinFlag f.flags .long })
  else if n < f.expected then (x.1, { f with flags := joinFlag f.flags .order })
  else takeLine r.width n px good (x.1, f)

/-- LINE (R1, R6, R10): ignored where the channel does not ingest or has no filling frame. -/
def State.line (s : State) (c : Camera) (n : BitVec 16) (samples : LineSamples) (good : Bool) : State :=
  let ch := s.channel c
  match ch.ingests, ch.filling with
  | true, some f =>
    let after := lineMark ch.record n.toNat (pixelsOf samples) good (s.pool, f)
    (s.setPool after.1).setChannel c { ch with filling := some after.2 }
  | _, _ => s

/-! ## FRAME_CLOSE, LINK_DOWN and the loss timer (R10, R11, R20, R21) -/

/-- FRAME_CLOSE (R1, R10, R11). -/
def State.frameClose (s : State) (c : Camera) (claimed : BitVec 16) : State :=
  let ch := s.channel c
  match ch.ingests, ch.filling with
  | true, some f =>
    let flags := f.flagsAtClose ch.record.height claimed
    match frameOutcome ch.record flags f.highest.isSome with
    | .halt => s.haltFrame c f
    | .complete => s.completeFrame c f flags
    | .discard => s.discardFrame c f
  | _, _ => s

/-- The channel goes to LOST and CAM_LOST is latched (R20, R21). -/
def State.loseCamera (s : State) (c : Camera) : State := (s.leaveService c .lost).raiseLatch (.camLost c)

/-- LINK_DOWN (R1, R21). -/
def State.linkDown (s : State) (c : Camera) : State := if (s.channel c).ingests then s.loseCamera c else s

/-- The loss timer's limit has passed since it was last started; a stopped timer does not expire (R20). -/
def Channel.lossDue (ch : Channel) (now : PartTime) : Bool :=
  match ch.lossTimer with
  | none => false
  | some t0 => decide (ch.record.lossLimit * 1000 ≤ elapsed now t0)

/-- LOSS_TIMER_EXPIRY (R20). -/
def State.lossExpiry (s : State) (c : Camera) : State :=
  if (s.channel c).ingests = true ∧ (s.channel c).lossDue s.partTime = true then s.loseCamera c else s

/-! ## Camera controls (R24 to R26) and the restart of ingest (R28) -/

/-- A channel that enters ACQUIRING by ENABLE or RESTART: trackers reset, sequence 0, loss timer started (R24, R25). -/
def Channel.acquire (ch : Channel) (now : PartTime) : Channel :=
  { ch with state := .acquiring, cadence := .cleared, freeze := .cleared, sequence := 0, lossTimer := some now }

/-- CAMERA_CONTROL ENABLE of a channel that is OFF (R24). -/
def State.enableCamera (s : State) (c : Camera) : State := s.setChannel c ((s.channel c).acquire s.partTime)

/-- CAMERA_CONTROL DISABLE (R26). -/
def State.disableCamera (s : State) (c : Camera) : State :=
  if (s.channel c).state = .off then s else s.leaveService c .off

/-- CAMERA_CONTROL RESTART of a channel that is not OFF (R25). -/
def State.restartCamera (s : State) (c : Camera) : State :=
  let left := s.leaveService c .acquiring
  left.setChannel c { (left.channel c).acquire s.partTime with counters := .zero }

/-- A channel after the soft restart (R28): the camera record and the last-frame record are kept. -/
def Channel.restarted (ch : Channel) : Channel :=
  ⟨ch.record, .off, .none, none, .cleared, .cleared, none, 0, .zero, ch.lastFrame⟩

end Sys2Proof.Machine
end

