-- ==== Sys2Proof/Machine/Compositor.lean ====
section
/-!
DEFINITION. Warping, sampling and seam blending (chapter 5): the arithmetic of one composed pixel, from the tile record to the
combination of its sources, and the tile luma means.
-/
namespace Sys2Proof.Machine

/-- What an output frame is composed from (R91): the header and tile records of the view in use, the camera snapshot, and the
pool whose held slots are read. -/
structure Scene where
  header : ViewHeader
  tiles : Table TileRecord
  pool : Pool

/-- A sample or composed pixel in whole numbers, before its levels are narrowed to 10 bits. -/
structure Sample where
  y : Nat
  cb : Nat
  cr : Nat
  deriving DecidableEq, Repr

/-- A pixel's levels as numbers. -/
def Pixel.toSample (p : Pixel) : Sample := ⟨p.y.toNat, p.cb.toNat, p.cr.toNat⟩

/-- A sample narrowed to 10-bit levels; every composed component lies in 0 to 1023, so nothing is lost (R108). -/
def Sample.toPixel (x : Sample) : Pixel := ⟨level x.y, level x.cb, level x.cr⟩

/-! ## Mesh interpolation (R96, R97) -/

/-- A corner value interpolated at pixel (i, j) of a tile (R96). -/
def mesh (c : Corners Nat) (i j : Nat) : Nat :=
  (c.c00 * (32 - i) * (32 - j) + c.c10 * i * (32 - j) + c.c01 * (32 - i) * j + c.c11 * i * j + 512) / 1024

/-- The u components of four corners. -/
def Corners.us (c : Corners Coord) : Corners Nat := ⟨c.c00.u, c.c10.u, c.c01.u, c.c11.u⟩

/-- The v components of four corners. -/
def Corners.vs (c : Corners Coord) : Corners Nat := ⟨c.c00.v, c.c10.v, c.c01.v, c.c11.v⟩

/-- The source coordinate at pixel (i, j) of a tile (R96). -/
def meshCoord (c : Corners Coord) (i j : Nat) : Coord := ⟨mesh c.us i j, mesh c.vs i j⟩

/-! ## Field test and bilinear sampling (R98 to R101) -/

/-- The coordinate lies in the field of a usable camera (R98). -/
def inField (shot : Shot) (p : Coord) : Bool := decide (p.u < shot.width * 16) && decide (p.v < shot.height * 16)

/-- The weighted mean of four neighbours (R100). -/
def bilinear (p00 p10 p01 p11 fu fv : Nat) : Nat :=
  (p00 * (16 - fu) * (16 - fv) + p10 * fu * (16 - fv) + p01 * (16 - fu) * fv + p11 * fu * fv + 128) / 256

/-- The camera pixel at a column and row of a held frame, each clamped into the frame (R99, R101). -/
def neighbour (pool : Pool) (shot : Shot) (column row : Nat) : Sample :=
  Pixel.toSample (pool.pixel shot.slot (min column (shot.width - 1)) (min row (shot.validLines - 1)))

/-- The sample of a held frame at a coordinate in its field (R99 to R101). -/
def sampleAt (pool : Pool) (shot : Shot) (p : Coord) : Sample :=
  let n00 := neighbour pool shot (p.u / 16) (p.v / 16)
  let n10 := neighbour pool shot (p.u / 16 + 1) (p.v / 16)
  let n01 := neighbour pool shot (p.u / 16) (p.v / 16 + 1)
  let n11 := neighbour pool shot (p.u / 16 + 1) (p.v / 16 + 1)
  let fu := p.u % 16
  let fv := p.v % 16
  ⟨bilinear n00.y n10.y n01.y n11.y fu fv, bilinear n00.cb n10.cb n01.cb n11.cb fu fv,
    bilinear n00.cr n10.cr n01.cr n11.cr fu fv⟩

/-! ## Level matching (R102) -/

/-- A luma matched with its camera's gain and offset, then saturated to 0 to 1023 (R102). -/
def matchLuma (y gain : Nat) (offset : Int) : Nat :=
  (clampInt 0 1023 (shiftRightFloor (((y : Int) - 64) * gain + 256) 9 + 64 + offset)).toNat

/-- A sample with its luma matched; chroma passes unchanged (R102). -/
def matchSample (shot : Shot) (x : Sample) : Sample := { x with y := matchLuma x.y shot.gain shot.offset }

/-- The matched sample a source gives at pixel (i, j) of its tile, or none (R98): its camera NONE, not usable, or the coordinate
outside the field. -/
def sourceSample (pool : Pool) (camera : Option Camera) (corners : Corners Coord) (i j : Nat) : Option Sample :=
  match camera with
  | none => none
  | some c =>
    match pool.snapshot.get c with
    | none => none
    | some shot =>
      if inField shot (meshCoord corners i j) then some (matchSample shot (sampleAt pool shot (meshCoord corners i j))) else none

/-! ## Combination (R103 to R107) -/

/-- One component blended with weight w (R104). -/
def blendComponent (a b w : Nat) : Nat := (a * w + b * (256 - w) + 128) / 256

/-- Two samples blended (R104). -/
def blend (a b : Sample) (w : Nat) : Sample := ⟨blendComponent a.y b.y w, blendComponent a.cb b.cb w, blendComponent a.cr b.cr w⟩

/-- A camera is named and not usable in the snapshot (R103). -/
def failed (pool : Pool) (camera : Option Camera) : Bool :=
  match camera with
  | none => false
  | some c => (pool.snapshot.get c).isNone

/-- The fault fill at output position (x, y) (R106). -/
def faultFill (h : ViewHeader) (x y : Nat) : Pixel :=
  if h.hatch = true ∧ (x + y) / 8 % 2 = 1 then h.background else h.fault

/-- The tile record of the tile at a column and row of the grid (R73). -/
def Scene.tile (sc : Scene) (tx ty : Nat) : TileRecord := Table.read TileRecord.cleared sc.tiles (ty * sc.header.columns + tx)

/-- The combination of what the two sources of a tile give (R103). -/
def combine (sc : Scene) (r : TileRecord) (x y w : Nat) (primary secondary : Option Sample) : Sample :=
  match primary, secondary with
  | some a, some b => blend a b w
  | some a, none => a
  | none, some b => b
  | none, none =>
    if failed sc.pool r.primary || failed sc.pool r.secondary then Pixel.toSample (faultFill sc.header x y)
    else Pixel.toSample sc.header.background

/-- The composed pixel at output position (x, y), before overlay (R93). -/
def composePixel (sc : Scene) (x y : Nat) : Sample :=
  let r := sc.tile (x / 32) (y / 32)
  combine sc r x y (mesh r.weights (x % 32) (y % 32)) (sourceSample sc.pool r.primary r.primaryCorners (x % 32) (y % 32))
    (sourceSample sc.pool r.secondary r.secondaryCorners (x % 32) (y % 32))

/-! ## Tile luma means (R109, R110) -/

/-- The sum of the composed luma of a tile's 1024 pixels (R109). -/
def tileSum (sc : Scene) (tx ty : Nat) : Nat :=
  ((List.range 32).map fun j => ((List.range 32).map fun i => (composePixel sc (tx * 32 + i) (ty * 32 + j)).y).sum).sum

/-- A tile is excluded when its primary camera is NONE or not usable in the snapshot (R110). -/
def excludedTile (sc : Scene) (r : TileRecord) : Bool :=
  match r.primary with
  | none => true
  | some c => (sc.pool.snapshot.get c).isNone

/-- The finished entry of a tile (R109, R110). -/
def tileMean (sc : Scene) (tile : Nat) : TileMean :=
  let tx := tile % sc.header.columns
  let ty := tile / sc.header.columns
  ⟨(tileSum sc tx ty + 512) / 1024, excludedTile sc (sc.tile tx ty)⟩

/-- The tile count of a header's grid (R72). -/
def ViewHeader.tileCount (h : ViewHeader) : Nat := h.columns * h.rows

/-- The finished means table of a frame (R94). -/
def meansTable (sc : Scene) : List TileMean := (List.range sc.header.tileCount).map (tileMean sc)

/-- The compositor at an output frame start in RUN: an entry for each tile, every sum 0, the position (0, 0) (R92). R92 gives a new
entry no value: mean 0, not excluded is the model's choice (DESIGN CHOICE, notes/assumptions/7.md). -/
def Compositor.begin (view : ViewNo) (h : ViewHeader) : Compositor :=
  .composing view (0, 0) (List.replicate h.tileCount ⟨0, false⟩) (List.replicate h.columns 0)

/-- What the frame in progress is composed from, where the compositor is COMPOSING (R91). -/
def State.scene (s : State) : Option Scene :=
  match s.compositor with
  | .idle => none
  | .composing v _ _ _ => some ⟨(s.view v).header, (s.view v).tiles, s.pool⟩

end Sys2Proof.Machine
end

