-- ==== Sys2Proof/Machine/Records.lean ====
section
/-!
DEFINITION. The records of the TABLE_WRITE and TABLE_READ targets: reading one from a payload with the tests and the clamping
of its own rule, and laying one out as R186, R187 and R189 give. A reading answers the result that refuses the record, or the
record as it is stored.
-/
namespace Sys2Proof.Machine

/-! ## Shared fields -/

/-- An ON or OFF byte (R189). -/
def onOff? (b : Nat) : Option Bool :=
  match b with
  | 0 => some false
  | 1 => some true
  | _ => none

/-- A colour of three 16-bit fields, each clamped to 0 to 1023 (R72, R139). -/
def colourAt (p : List Byte) (i : Nat) : Pixel :=
  ⟨level (clampNat 0 1023 (u16 p i)), level (clampNat 0 1023 (u16 p (i + 2))), level (clampNat 0 1023 (u16 p (i + 4)))⟩

/-- A colour laid out as three 16-bit fields (R189). -/
def encodeColour (c : Pixel) : List Byte := le16 c.y.toNat ++ le16 c.cb.toNat ++ le16 c.cr.toNat

/-- A list of bytes made n bytes long with zeros. -/
def padTo (n : Nat) (l : List Byte) : List Byte := l ++ List.replicate (n - l.length) 0

/-! ## Camera record (R2 to R4, R189) -/

/-- The expected cadence byte (R189). -/
def cadence? (b : Nat) : Option ExpectedCadence :=
  match b with
  | 0 => some .any
  | 1 => some .c25
  | 2 => some .c30
  | 3 => some .c50
  | 4 => some .c60
  | _ => none

/-- The expected cadence coded (R189). -/
def ExpectedCadence.code : ExpectedCadence → Nat
  | .any => 0
  | .c25 => 1
  | .c30 => 2
  | .c50 => 3
  | .c60 => 4

/-- The width clamped, then rounded down to an even number (R4). -/
def clampWidth (w : Nat) : Nat := clampNat 64 1920 w / 2 * 2

/-- The freeze count: 0 stays 0, 1 becomes 2, above 15 becomes 15 (R2, R4). -/
def clampFreeze (n : Nat) : Nat := if n = 0 then 0 else clampNat 2 15 n

/-- The slot numbers a camera record names, in written order; bytes at or beyond the count are not read (R189). -/
def slotBytes (p : List Byte) : List Nat := (List.range (u8 p 16)).map fun i => u8 p (17 + i)

/-- The form of a slot list: 1 to 4 distinct numbers, each 0 to 15 (R3 test 2). -/
def slotListFormed (l : List Nat) : Bool :=
  decide (1 ≤ l.length) && decide (l.length ≤ 4) && l.all (fun n => decide (n ≤ 15)) && decide l.Nodup

/-- A camera record read, tested for its form (R3 test 2) and clamped (R4). -/
def readCameraRecord (p : List Byte) : Except Result CameraRecord :=
  match cadence? (u8 p 4) with
  | none => .error .malformed
  | some cadence =>
    if u8 p 10 < 64 ∧ u8 p 11 < 64 ∧ slotListFormed (slotBytes p) then
      .ok {
        width := clampWidth (u16 p 0)
        height := clampNat 64 1080 (u16 p 2)
        cadence := cadence
        staleLimit := clampNat 20 500 (u16 p 5)
        lossLimit := clampNat 50 2000 (u16 p 7)
        freezeCount := clampFreeze (u8 p 9)
        keepMask := BitVec.ofNat 6 (u8 p 10)
        haltMask := BitVec.ofNat 6 (u8 p 11)
        gain := clampNat 0 1023 (u16 p 12)
        offset := clampInt (-256) 255 (s16 p 14)
        slotList := (slotBytes p).map (Fin.ofNat 16) }
    else .error .malformed

/-- The 21 bytes of a camera record (R189). -/
def encodeCameraRecord (r : CameraRecord) : List Byte :=
  le16 r.width ++ le16 r.height ++ [byteOf r.cadence.code] ++ le16 r.staleLimit ++ le16 r.lossLimit
    ++ [byteOf r.freezeCount, byteOf r.keepMask.toNat, byteOf r.haltMask.toNat] ++ le16 r.gain ++ le16s r.offset
    ++ [byteOf r.slotList.length] ++ padTo 4 (r.slotList.map fun k => byteOf k.val)

/-! ## View header and tile (R72, R73, R186, R189) -/

/-- A view header read, its hatch tested (R79 test 2) and its fields clamped (R72). -/
def readViewHeader (p : List Byte) : Except Result ViewHeader :=
  match onOff? (u8 p 14) with
  | none => .error .malformed
  | some hatch =>
    .ok {
      columns := clampNat 1 40 (u8 p 0)
      rows := clampNat 1 25 (u8 p 1)
      background := colourAt p 2
      fault := colourAt p 8
      hatch := hatch
      label := BitVec.ofNat 16 (u16 p 15) }

/-- The 17 bytes of a view header (R189). -/
def encodeViewHeader (h : ViewHeader) : List Byte :=
  [byteOf h.columns, byteOf h.rows] ++ encodeColour h.background ++ encodeColour h.fault ++ [byteOf (bit h.hatch)]
    ++ le16 h.label.toNat

/-- A camera byte of a tile: 0 to 3, or 15 for NONE (R186). -/
def tileCamera? (b : Nat) : Option (Option Camera) :=
  if b = 15 then some none else (toFin? 4 b).map some

/-- The camera byte of a tile coded (R186). -/
def tileCameraCode : Option Camera → Nat
  | none => 15
  | some c => c.val

/-- A corner coordinate, above 32767 stored as 32767 (R73). -/
def coordAt (p : List Byte) (i : Nat) : Coord := ⟨clampNat 0 32767 (u16 p i), clampNat 0 32767 (u16 p (i + 2))⟩

/-- Four corners, u then v for each in turn (R186). -/
def cornersAt (p : List Byte) (i : Nat) : Corners Coord :=
  ⟨coordAt p i, coordAt p (i + 4), coordAt p (i + 8), coordAt p (i + 12)⟩

/-- A tile record read, its cameras tested (R80 test 2) and its fields clamped (R73). -/
def readTile (p : List Byte) : Except Result TileRecord :=
  match tileCamera? (u8 p 0), tileCamera? (u8 p 1) with
  | some primary, some secondary =>
    .ok {
      primary := primary
      secondary := secondary
      primaryCorners := cornersAt p 2
      secondaryCorners := cornersAt p 18
      weights := ⟨clampNat 0 256 (u16 p 34), clampNat 0 256 (u16 p 36), clampNat 0 256 (u16 p 38), clampNat 0 256 (u16 p 40)⟩ }
  | _, _ => .error .malformed

/-- Four corners laid out (R186). -/
def encodeCorners (c : Corners Coord) : List Byte :=
  le16 c.c00.u ++ le16 c.c00.v ++ le16 c.c10.u ++ le16 c.c10.v ++ le16 c.c01.u ++ le16 c.c01.v ++ le16 c.c11.u ++ le16 c.c11.v

/-- The 42 bytes of a tile record (R186). -/
def encodeTile (r : TileRecord) : List Byte :=
  [byteOf (tileCameraCode r.primary), byteOf (tileCameraCode r.secondary)] ++ encodeCorners r.primaryCorners
    ++ encodeCorners r.secondaryCorners ++ le16 r.weights.c00 ++ le16 r.weights.c10 ++ le16 r.weights.c01 ++ le16 r.weights.c11

/-! ## Overlay element, palette entry, path band (R133, R135, R136, R138, R139, R187, R189) -/

/-- The kind byte of an element (R187). -/
def elementKind? (b : Nat) : Option ElementKind :=
  match b with
  | 0 => some .none
  | 1 => some .rect
  | 2 => some .outline
  | 3 => some .sprite
  | 4 => some .path
  | _ => none

/-- The kind of an element coded (R187). -/
def ElementKind.code : ElementKind → Nat
  | .none => 0
  | .rect => 1
  | .outline => 2
  | .sprite => 3
  | .path => 4

/-- The condition and its argument: BAD_INDEX for a zone or camera beyond its table, MALFORMED for an undefined condition or
BODY flag; for the others the argument is not tested (R138, R187). -/
def readCondition (kind arg : Nat) : Except Result Condition :=
  match kind with
  | 0 => .ok .always
  | 1 => match toFin? 8 arg with
    | some z => .ok (.zone z)
    | none => .error .badIndex
  | 2 => match toFin? 4 arg with
    | some c => .ok (.cameraFault c)
    | none => .error .badIndex
  | 3 => .ok .indicatorNearside
  | 4 => .ok .reverse
  | 5 => match toFin? 8 arg with
    | some f => .ok (.body f)
    | none => .error .malformed
  | _ => .error .malformed

/-- A condition and its argument coded; an argument that is not read is sent as 0 (R187). -/
def Condition.code : Condition → Nat × Nat
  | .always => (0, 0)
  | .zone z => (1, z.val)
  | .cameraFault c => (2, c.val)
  | .indicatorNearside => (3, 0)
  | .reverse => (4, 0)
  | .body f => (5, f.val)

/-- The element's own index tests (R138 test 1). -/
def elementIndexesOk (p : List Byte) : Bool :=
  decide (u8 p 13 ≤ 15) && decide (u8 p 20 ≤ 15) && decide (readCondition (u8 p 1) (u8 p 2) ≠ .error .badIndex)

/-- An element read: its index tests, then its form (R138), then clamped (R139). -/
def readElement (p : List Byte) : Except Result Element :=
  if elementIndexesOk p then
    match elementKind? (u8 p 0), readCondition (u8 p 1) (u8 p 2), onOff? (u8 p 3) with
    | some kind, .ok condition, some negate =>
      .ok {
        kind := kind
        condition := condition
        negate := negate
        x := clampInt (-1024) 2047 (s16 p 4)
        y := clampInt (-1024) 2047 (s16 p 6)
        w := clampNat 0 2047 (u16 p 8)
        h := clampNat 0 2047 (u16 p 10)
        thickness := clampNat 1 16 (u8 p 12)
        palette := Fin.ofNat 16 (u8 p 13)
        spriteOffset := clampNat 0 16383 (u16 p 14)
        spriteWidth := clampNat 1 256 (u16 p 16)
        spriteHeight := clampNat 1 256 (u16 p 18)
        paletteBase := Fin.ofNat 16 (u8 p 20)
        viewMask := byteAt p 21
        blinkValue := byteAt p 22
        blinkMask := byteAt p 23 }
    | _, _, _ => .error .malformed
  else .error .badIndex

/-- The 24 bytes of an element (R187). -/
def encodeElement (e : Element) : List Byte :=
  [byteOf e.kind.code, byteOf e.condition.code.1, byteOf e.condition.code.2, byteOf (bit e.negate)] ++ le16s e.x ++ le16s e.y
    ++ le16 e.w ++ le16 e.h ++ [byteOf e.thickness, byteOf e.palette.val] ++ le16 e.spriteOffset ++ le16 e.spriteWidth
    ++ le16 e.spriteHeight ++ [byteOf e.paletteBase.val, e.viewMask, e.blinkValue, e.blinkMask]

/-- A palette entry read and clamped (R133). -/
def readPalette (p : List Byte) : PaletteEntry := ⟨colourAt p 0, clampNat 0 16 (u8 p 6)⟩

/-- The 7 bytes of a palette entry (R189). -/
def encodePalette (e : PaletteEntry) : List Byte := encodeColour e.colour ++ [byteOf e.alpha]

/-- A span at an offset, clamped (R135, R139). -/
def spanAt (p : List Byte) (i : Nat) : Span :=
  ⟨clampInt (-1024) 2047 (s16 p i), clampNat 0 1024 (u16 p (i + 2)), clampInt (-1024) 2047 (s16 p (i + 4)),
    clampInt (-1024) 2047 (s16 p (i + 6))⟩

/-- A band read: a span count above 7 is MALFORMED, spans at or beyond the count are not read (R138, R189). -/
def readBand (p : List Byte) : Except Result (List Span) :=
  if u8 p 0 ≤ 7 then .ok ((List.range (u8 p 0)).map fun s => spanAt p (1 + 8 * s)) else .error .malformed

/-- A span laid out (R189). -/
def encodeSpan (s : Span) : List Byte := le16s s.startRow ++ le16 s.rowCount ++ le16s s.leftX ++ le16s s.rightX

/-- The 57 bytes of a band (R189). -/
def encodeBand (l : List Span) : List Byte := padTo 57 (byteOf l.length :: l.flatMap encodeSpan)

/-! ## Selection rule and settings, signal timeouts (R118 to R120, R126, R189) -/

/-- The speed condition of a rule; the bounds are not read for ANY (R120, R189). -/
def speedCondition? (p : List Byte) : Option (RangeCondition Nat) :=
  match u8 p 3 with
  | 0 => some .any
  | 1 => some (.range (clampNat 0 1500 (u16 p 4)) (clampNat 0 1500 (u16 p 6)))
  | _ => none

/-- The steer condition of a rule; the bounds are not read for ANY (R120, R189). -/
def steerCondition? (p : List Byte) : Option (RangeCondition Int) :=
  match u8 p 8 with
  | 0 => some .any
  | 1 => some (.range (clampInt (-450) 450 (s16 p 9)) (clampInt (-450) 450 (s16 p 11)))
  | _ => none

/-- A rule read: its target tested first (R120 test 2), then its form (test 3), its bounds clamped. -/
def readRule (p : List Byte) : Except Result Rule :=
  match toFin? 8 (u8 p 15) with
  | none => .error .badIndex
  | some target =>
    match onOff? (u8 p 0), onOff? (u8 p 16), speedCondition? p, steerCondition? p with
    | some enable, some immediate, some speed, some steer =>
      .ok {
        enable := enable
        gearSet := BitVec.ofNat 4 (u8 p 1)
        indicatorSet := BitVec.ofNat 4 (u8 p 2)
        speed := speed
        steer := steer
        bodyValue := byteAt p 13
        bodyMask := byteAt p 14
        target := target
        immediate := immediate }
    | _, _, _, _ => .error .malformed

/-- The speed condition and its bounds laid out (R189). -/
def encodeSpeed : RangeCondition Nat → List Byte
  | .any => [0, 0, 0, 0, 0]
  | .range low high => 1 :: (le16 low ++ le16 high)

/-- The steer condition and its bounds laid out (R189). -/
def encodeSteer : RangeCondition Int → List Byte
  | .any => [0, 0, 0, 0, 0]
  | .range low high => 1 :: (le16s low ++ le16s high)

/-- The 17 bytes of a rule (R189). -/
def encodeRule (r : Rule) : List Byte :=
  [byteOf (bit r.enable), byteOf r.gearSet.toNat, byteOf r.indicatorSet.toNat] ++ encodeSpeed r.speed ++ encodeSteer r.steer
    ++ [r.bodyValue, r.bodyMask, byteOf r.target.val, byteOf (bit r.immediate)]

/-- The 3 bytes of the selection settings (R189). -/
def encodeSettings (defaultView : ViewNo) (dwell : Nat) : List Byte := byteOf defaultView.val :: le16 dwell

/-- The signal timeouts read and clamped (R118). -/
def readTimeouts (p : List Byte) : SignalTimeouts :=
  ⟨clampNat 100 2000 (u16 p 0), clampNat 100 2000 (u16 p 2), clampNat 100 2000 (u16 p 4), clampNat 100 2000 (u16 p 6),
    clampNat 100 2000 (u16 p 8)⟩

/-- The 10 bytes of the signal timeouts (R189). -/
def encodeTimeouts (r : SignalTimeouts) : List Byte :=
  le16 r.steer ++ le16 r.speed ++ le16 r.gear ++ le16 r.indicator ++ le16 r.body

/-- A signal's status coded (R189). -/
def SignalStatus.code : SignalStatus → Nat
  | .absent => 0
  | .current => 1
  | .expired => 2

/-- GEAR coded (R185). -/
def Gear.code : Gear → Nat
  | .park => 0
  | .neutral => 1
  | .forward => 2
  | .reverse => 3

/-- INDICATOR coded (R185). -/
def Indicator.code : Indicator → Nat
  | .off => 0
  | .nearside => 1
  | .offside => 2
  | .hazard => 3

/-- A signal entry's status, value and arrival time (R189). -/
def encodeEntry {α : Type} (e : SignalEntry α) (value : List Byte) : List Byte :=
  byteOf e.status.code :: (value ++ le32 e.arrival)

/-- The five entries as a TABLE_READ of the signal timeouts carries them (R118, R189). -/
def encodeSignals (s : SignalTable) : List Byte :=
  encodeEntry s.steer (le16s s.steer.value) ++ encodeEntry s.speed (le16 s.speed.value)
    ++ encodeEntry s.gear [byteOf s.gear.value.code, 0] ++ encodeEntry s.indicator [byteOf s.indicator.value.code, 0]
    ++ encodeEntry s.body [s.body.value, 0]

/-! ## Zone record (R153, R154, R189) -/

/-- A zone record read, its enable tested and its fields clamped (R154). -/
def readZoneRecord (p : List Byte) : Except Result ZoneRecord :=
  match onOff? (u8 p 0) with
  | none => .error .malformed
  | some enable =>
    .ok {
      enable := enable
      tx0 := clampNat 0 39 (u8 p 1)
      tx1 := clampNat 0 39 (u8 p 2)
      ty0 := clampNat 0 24 (u8 p 3)
      ty1 := clampNat 0 24 (u8 p 4)
      viewMask := byteAt p 5
      threshold := clampNat 0 1023 (u16 p 6)
      trigger := clampNat 1 255 (u8 p 8)
      confirm := clampNat 1 15 (u8 p 9)
      holdTime := clampNat 0 5000 (u16 p 10)
      learnShift := clampNat 1 8 (u8 p 12) }

/-- The 13 bytes of a zone record (R189). -/
def encodeZoneRecord (r : ZoneRecord) : List Byte :=
  [byteOf (bit r.enable), byteOf r.tx0, byteOf r.tx1, byteOf r.ty0, byteOf r.ty1, r.viewMask] ++ le16 r.threshold
    ++ [byteOf r.trigger, byteOf r.confirm] ++ le16 r.holdTime ++ [byteOf r.learnShift]

/-- A zone state coded (R188). -/
def ZoneState.code : ZoneState → Nat
  | .disarmed => 0
  | .settling _ => 1
  | .quiet => 2
  | .confirming _ => 3
  | .alert => 4
  | .holding _ => 5

/-- The frames left in SETTLING or the hits so far in CONFIRMING, 0 in the other states (R189). -/
def ZoneState.count : ZoneState → Nat
  | .settling left => left
  | .confirming hits => hits
  | _ => 0

/-- The part time at which the hold timer was started, in HOLDING; 0 in the other states (R189). -/
def ZoneState.holdStart : ZoneState → PartTime
  | .holding since => since
  | _ => 0

/-- The 21 bytes of a TABLE_READ of a zone record (R189). -/
def encodeZone (z : Zone) : List Byte :=
  encodeZoneRecord z.record ++ [byteOf z.state.code, byteOf z.state.count] ++ le16 z.lastChanged ++ le32 z.state.holdStart

/-! ## Counters, view states and the last-frame record (R188) -/

/-- A view state coded (R188, R189). -/
def ViewState.code : ViewState → Nat
  | .empty => 0
  | .loading => 1
  | .valid => 2
  | .withdrawn => 3

/-- The five counters in the order of R27 (R188). -/
def encodeCounters (c : Counters) : List Byte :=
  le16 c.completed.toNat ++ le16 c.discarded.toNat ++ le16 c.overwritten.toNat ++ le16 c.skipped.toNat ++ le16 c.superseded.toNat

/-- The last-frame record (R188). -/
def encodeFrameRecord (r : FrameRecord) : List Byte :=
  byteOf r.camera.val :: (le16 r.number.toNat ++ le16 r.sequence.toNat ++ le32 r.completedAt ++ le16 r.validLines
    ++ [byteOf r.flags.toNat] ++ le16 r.signature.toNat)

end Sys2Proof.Machine
end

