-- ==== Sys2Proof/Machine/Overlay.lean ====
section
/-!
DEFINITION. The overlay engine (chapter 7): which elements a frame draws, what each covers, how they are drawn over a composed
pixel, and the picture the display port sends.
-/
namespace Sys2Proof.Machine

/-! ## Banks (R132 to R135) -/

/-- The bank drawn (R132). -/
def Overlay.activeBank (o : Overlay) : Bank := o.bank o.active

/-- An element of a bank (R132). -/
def Bank.element (x : Bank) (i : Nat) : Element := Table.read Element.cleared x.elements i

/-- A palette entry of a bank (R133). -/
def Bank.paletteEntry (x : Bank) (i : Nat) : PaletteEntry := Table.read PaletteEntry.cleared x.palette i

/-- A band of a bank; an empty band has no span (R135). -/
def Bank.band (x : Bank) (i : Nat) : List Span := Table.read [] x.bands i

/-- A byte of the sprite area; a byte nothing has written is 0 (R134, R151). -/
def Bank.spriteByte (x : Bank) (i : Nat) : Byte := Table.read 0 x.sprites i

/-- The value of a sprite pixel: two bits, the first pixel of a byte in its lowest, 0 beyond the area (R134). -/
def Bank.spritePixel (x : Bank) (n : Nat) : Nat :=
  if n < 65536 then (x.spriteByte (n / 4)).toNat / 4 ^ (n % 4) % 4 else 0

/-! ## Visibility (R145 to R147) -/

/-- What the draw list is fixed from at a start in RUN (R145): the view in use, the zones a condition reads as marked, the camera and
signal snapshots, and the frame counter as raised at this start. -/
structure DrawInputs where
  view : Option ViewNo
  zoneMarked : ZoneNo → Bool
  usable : Camera → Bool
  signals : SignalSnapshot
  frameCounter : BitVec 32

/-- A condition before negation (R146). -/
def Condition.holds (x : DrawInputs) : Condition → Bool
  | .always => true
  | .zone z => x.zoneMarked z
  | .cameraFault c => !x.usable c
  | .indicatorNearside => decide (x.signals.indicator = some .nearside)
  | .reverse => decide (x.signals.gear = some .reverse)
  | .body f =>
    match x.signals.body with
    | none => false
    | some b => member b f.val

/-- The band a STEER reading chooses (R147). -/
def bandOf (steer : Int) : Nat := ((steer + 450 + 15) / 30).toNat

/-- The view in use is in an element's or zone's view mask. -/
def maskHas (mask : Byte) (view : Option ViewNo) : Bool :=
  match view with
  | none => false
  | some v => member mask v.val

/-- The blink test: the counter's low 8 bits ANDed with the mask equal the value (R145). -/
def Element.blinks (e : Element) (counter : BitVec 32) : Bool := decide (counter.setWidth 8 &&& e.blinkMask = e.blinkValue)

/-- The tests of R145 that every kind shares. -/
def Element.shown (x : DrawInputs) (e : Element) : Bool :=
  decide (e.kind ≠ .none) && maskHas e.viewMask x.view && (e.condition.holds x != e.negate) && e.blinks x.frameCounter

/-- The draw item of element i where it is visible (R145); a PATH element needs STEER known and takes its band (R147). -/
def drawItem? (x : DrawInputs) (bank : Bank) (i : Nat) : Option DrawItem :=
  let e := bank.element i
  if e.shown x then
    match e.kind, x.signals.steer with
    | .path, none => none
    | .path, some steer => some ⟨i, bandOf steer⟩
    | _, _ => some ⟨i, 0⟩
  else none

/-- The draw list of a frame, in list order (R145). -/
def drawListOf (x : DrawInputs) (bank : Bank) : List DrawItem := (List.range 64).filterMap (drawItem? x bank)

/-! ## Coverage and extent (R137) -/

/-- The row lies within the rectangle of an element. -/
def Element.inRows (e : Element) (py : Int) : Bool := decide (e.y ≤ py) && decide (py < e.y + e.h)

/-- The pixel lies within the rectangle of an element. -/
def Element.inRect (e : Element) (px py : Int) : Bool := decide (e.x ≤ px) && decide (px < e.x + e.w) && e.inRows py

/-- The pixel lies within thickness of an edge of the rectangle (R137). -/
def Element.nearEdge (e : Element) (px py : Int) : Bool :=
  decide (px - e.x < e.thickness) || decide (e.x + e.w - 1 - px < e.thickness) || decide (py - e.y < e.thickness)
    || decide (e.y + e.h - 1 - py < e.thickness)

/-- The span's rows hold a row (R135). -/
def Span.inRows (s : Span) (e : Element) (py : Int) : Bool :=
  decide (e.y + s.startRow ≤ py) && decide (py < e.y + s.startRow + s.rowCount)

/-- The span covers a pixel (R135). -/
def Span.covers (s : Span) (e : Element) (px py : Int) : Bool :=
  s.inRows e py && decide (e.x + s.leftX ≤ px) && decide (px ≤ e.x + s.rightX)

/-- The value of the sprite pixel a SPRITE element places at an output pixel, 0 where it places none (R137). -/
def spriteValue (bank : Bank) (e : Element) (px py : Int) : Nat :=
  if e.x ≤ px ∧ px < e.x + e.spriteWidth ∧ e.y ≤ py ∧ py < e.y + e.spriteHeight then
    bank.spritePixel (e.spriteOffset * 4 + (py - e.y).toNat * e.spriteWidth + (px - e.x).toNat)
  else 0

/-- The palette entry an element draws with at an output pixel, none where it does not cover it (R137). -/
def coverage (bank : Bank) (item : DrawItem) (px py : Int) : Option Nat :=
  let e := bank.element item.element
  match e.kind with
  | .none => none
  | .rect => if e.inRect px py then some e.palette.val else none
  | .outline => if e.inRect px py && e.nearEdge px py then some e.palette.val else none
  | .sprite =>
    if spriteValue bank e px py = 0 then none else some ((e.paletteBase.val + spriteValue bank e px py - 1) % 16)
  | .path => if (bank.band item.band).any fun s => s.covers e px py then some e.palette.val else none

/-- A line lies within an element's vertical extent (R137). -/
def inExtent (bank : Bank) (item : DrawItem) (py : Int) : Bool :=
  let e := bank.element item.element
  match e.kind with
  | .none => false
  | .rect => e.inRows py
  | .outline => e.inRows py
  | .sprite => decide (e.y ≤ py) && decide (py < e.y + e.spriteHeight)
  | .path => (bank.band item.band).any fun s => s.inRows e py

/-! ## Drawing (R148, R149) -/

/-- The elements that count toward a line (R149). -/
def onLine (bank : Bank) (list : List DrawItem) (py : Nat) : List DrawItem := list.filter fun d => inExtent bank d py

/-- The elements applied on a line: the first 16 that count toward it (R149). -/
def appliedOn (bank : Bank) (list : List DrawItem) (py : Nat) : List DrawItem := (onLine bank list py).take 16

/-- More than 16 elements count toward a line (R149). -/
def crowded (bank : Bank) (list : List DrawItem) (py : Nat) : Bool := decide (16 < (onLine bank list py).length)

/-- One component with a colour mixed in (R148). -/
def mixComponent (e p alpha : Nat) : Nat := (e * alpha + p * (16 - alpha) + 8) / 16

/-- A pixel with a palette entry drawn over it (R148). -/
def mix (entry : PaletteEntry) (p : Sample) : Sample :=
  ⟨mixComponent entry.colour.y.toNat p.y entry.alpha, mixComponent entry.colour.cb.toNat p.cb entry.alpha,
    mixComponent entry.colour.cr.toNat p.cr entry.alpha⟩

/-- One element applied to a pixel: unchanged where it does not cover it (R148). -/
def applyItem (bank : Bank) (px py : Nat) (p : Sample) (item : DrawItem) : Sample :=
  match coverage bank item px py with
  | none => p
  | some i => mix (bank.paletteEntry i) p

/-- A composed pixel with the elements applied on its line drawn over it, lowest number first (R148). -/
def overlayPixel (bank : Bank) (list : List DrawItem) (px py : Nat) (p : Sample) : Sample :=
  (appliedOn bank list py).foldl (applyItem bank px py) p

/-! ## The picture (R48, R52, R113) -/

/-- The active width of a format (R48). -/
def activeWidth (f : FormatNo) : Nat :=
  match f with
  | 0 => 800
  | 1 => 1024
  | _ => 1280

/-- The active height of a format, its number of active lines (R48, R49). -/
def activeHeight (f : FormatNo) : Nat :=
  match f with
  | 0 => 480
  | 1 => 768
  | _ => 800

/-- A line of black (R52). -/
def blackLine (f : FormatNo) : List Pixel := List.replicate (activeWidth f) black

/-- An active line of a RUN frame as the display port sends it (R52, R113). -/
def composedLine (f : FormatNo) (sc : Scene) (bank : Bank) (list : List DrawItem) (y : Nat) : List Pixel :=
  (List.range (activeWidth f)).map fun x => (overlayPixel bank list x y (composePixel sc x y)).toPixel

/-- The active line y of the frame in progress: composed while the compositor is COMPOSING, black otherwise (R52). -/
def State.activeLine (s : State) (y : Nat) : List Pixel :=
  match s.scene with
  | some sc => composedLine s.output.format sc s.overlay.activeBank s.overlay.drawList y
  | none => blackLine s.output.format

/-- The lines the display port goes on to send, up to line n of the frame (R52). -/
def State.linesTo (s : State) (n : Nat) : List (List Pixel) :=
  (List.range' s.port.lines.length (n - s.port.lines.length)).map s.activeLine

/-- A line among those up to line n is crowded, in a frame being composed (R149). -/
def State.budgetExceeded (s : State) (n : Nat) : Bool :=
  s.scene.isSome
    && (List.range' s.port.lines.length (n - s.port.lines.length)).any (crowded s.overlay.activeBank s.overlay.drawList)

/-- The frame in progress sent up to its line n, the overlay-budget flag set where a line is crowded (R52, R149). -/
def State.sendTo (s : State) (n : Nat) : State :=
  (s.setPort { s.port with lines := s.port.lines ++ s.linesTo n }).setOverlay
    { s.overlay with budget := s.overlay.budget || s.budgetExceeded n }

/-- The engine after the soft restart: the banks' contents kept, bank A active, nothing pending or drawn (R151). -/
def Overlay.restarted (o : Overlay) : Overlay := ⟨o.bankA, o.bankB, .a, false, [], false⟩

end Sys2Proof.Machine
end

