-- ==== Sys2Proof/Machine/Selector.lean ====
section
/-!
DEFINITION. Vehicle signals and view selection (chapter 6): signal messages, the ageing and snapshot of an output frame start,
the rules, the choice of the current view, and the selector's resets.
-/
namespace Sys2Proof.Machine

/-! ## Signal messages (R115, R185) -/

/-- GEAR from its byte (R185). -/
def gear? (b : Nat) : Option Gear :=
  match b with
  | 0 => some .park
  | 1 => some .neutral
  | 2 => some .forward
  | 3 => some .reverse
  | _ => none

/-- INDICATOR from its byte (R185). -/
def indicator? (b : Nat) : Option Indicator :=
  match b with
  | 0 => some .off
  | 1 => some .nearside
  | 2 => some .offside
  | 3 => some .hazard
  | _ => none

/-- The signal table after a signal message at a part time, none where the message is dropped: an undefined kind, a length that
does not suit it, or an undefined GEAR or INDICATOR value (R115, R185). -/
def applySignal (x : SignalTable) (now : PartTime) (m : Message) : Option SignalTable :=
  match m.kind.toNat, m.length.toNat with
  | 1, 2 => some { x with steer := ⟨.current, clampInt (-450) 450 (s16 m.payload 0), now⟩ }
  | 2, 2 => some { x with speed := ⟨.current, clampNat 0 1500 (u16 m.payload 0), now⟩ }
  | 3, 1 => (gear? (u8 m.payload 0)).map fun g => { x with gear := ⟨.current, g, now⟩ }
  | 4, 1 => (indicator? (u8 m.payload 0)).map fun i => { x with indicator := ⟨.current, i, now⟩ }
  | 5, 1 => some { x with body := ⟨.current, byteAt m.payload 0, now⟩ }
  | _, _ => none

/-- SIGNAL_MESSAGE: applied on arrival, or dropped with the signal-drop counter raised and SIGNAL_DROPPED latched (R115, R181). -/
def State.signalMessage (s : State) (m : Message) : State :=
  match applySignal s.selector.signals s.partTime m with
  | some signals => s.setSelector { s.selector with signals := signals }
  | none => (s.setMgmt { s.mgmt with signalDrops := raise s.mgmt.signalDrops 1 }).raiseLatch .signalDropped

/-! ## Ageing and the snapshot (R116, R117) -/

/-- A CURRENT entry older than its timeout becomes EXPIRED (R116). -/
def SignalEntry.aged {α : Type} (e : SignalEntry α) (now : PartTime) (timeout : Nat) : SignalEntry α :=
  if e.status = .current ∧ timeout * 1000 < elapsed now e.arrival then { e with status := .expired } else e

/-- The signal table aged at an output frame start (R116). -/
def SignalTable.aged (x : SignalTable) (now : PartTime) (o : SignalTimeouts) : SignalTable :=
  ⟨x.steer.aged now o.steer, x.speed.aged now o.speed, x.gear.aged now o.gear, x.indicator.aged now o.indicator,
    x.body.aged now o.body⟩

/-- A CURRENT entry gives its value, an ABSENT or EXPIRED one UNKNOWN (R117). -/
def SignalEntry.reading {α : Type} (e : SignalEntry α) : Option α := if e.status = .current then some e.value else none

/-- The signal snapshot of an aged table (R117). -/
def SignalTable.snapshot (x : SignalTable) : SignalSnapshot :=
  ⟨x.steer.reading, x.speed.reading, x.gear.reading, x.indicator.reading, x.body.reading⟩

/-! ## Rules (R121, R122) -/

/-- A set passes a reading: the full set passes anything, UNKNOWN included (R121). -/
def setPasses (set : BitVec 4) (reading : Option Nat) : Bool :=
  decide (set = 15) ||
    match reading with
    | none => false
    | some n => member set n

/-- A speed condition passes a reading (R121). -/
def speedPasses (cond : RangeCondition Nat) (reading : Option Nat) : Bool :=
  match cond, reading with
  | .any, _ => true
  | .range low high, some v => decide (low ≤ v) && decide (v ≤ high)
  | .range _ _, none => false

/-- A steer condition passes a reading (R121). -/
def steerPasses (cond : RangeCondition Int) (reading : Option Int) : Bool :=
  match cond, reading with
  | .any, _ => true
  | .range low high, some v => decide (low ≤ v) && decide (v ≤ high)
  | .range _ _, none => false

/-- The body condition passes a reading: every flag of the mask as the body value has it (R121). -/
def bodyPasses (value mask : Byte) (reading : Option Byte) : Bool :=
  decide (mask = 0) ||
    match reading with
    | none => false
    | some b => decide (b &&& mask = value &&& mask)

/-- All conditions of a rule hold in a snapshot (R121). -/
def Rule.passes (r : Rule) (x : SignalSnapshot) : Bool :=
  setPasses r.gearSet (x.gear.map Gear.code) && setPasses r.indicatorSet (x.indicator.map Indicator.code)
    && speedPasses r.speed x.speed && steerPasses r.steer x.steer && bodyPasses r.bodyValue r.bodyMask x.body

/-- What the candidate search finds (R122): the candidate, whether it came from a rule whose immediate field is ON, and whether
a rule was passed over because its target is not VALID. -/
structure Candidate where
  view : ViewNo
  immediate : Bool
  skipped : Bool
  deriving DecidableEq, Repr

/-- The candidate search over a list of rules, in order (R122). -/
def findCandidate (valid : ViewNo → Bool) (x : SignalSnapshot) (defaultView : ViewNo) : List Rule → Candidate
  | [] => ⟨defaultView, false, false⟩
  | r :: rest =>
    if r.enable = true ∧ r.passes x = true then
      if valid r.target then ⟨r.target, r.immediate, false⟩
      else { findCandidate valid x defaultView rest with skipped := true }
    else findCandidate valid x defaultView rest

/-- The sixteen rules in list order (R119). -/
def Selector.ruleList (x : Selector) : List Rule := (List.range 16).map x.rule

/-! ## The current view (R123 to R125) -/

/-- The dwell test: the selector after a candidate that differs from the current view and is not immediate (R124). -/
def Selector.dwellTest (x : Selector) (now : PartTime) (v : ViewNo) : Selector :=
  let since := match x.candidate with
    | some p => if p.view = v then p.since else now
    | none => now
  if x.dwell * 1000 ≤ elapsed now since then { x with current := some v, candidate := none }
  else { x with candidate := some ⟨v, since⟩ }

/-- The current view fixed at a start where no force stands, from the candidate found (R123 cases 2 to 5). -/
def Selector.chooseFrom (x : Selector) (now : PartTime) (valid : ViewNo → Bool) (found : Candidate) : Selector :=
  match x.current with
  | none => { x with current := some found.view, candidate := none }
  | some v =>
    if valid v = false then { x with current := some found.view, candidate := none }
    else if found.view = v then { x with candidate := none }
    else if found.immediate then { x with current := some found.view, candidate := none }
    else x.dwellTest now found.view

/-- The selector after a start in RUN has fixed the current view from a snapshot, and whether RULE_SKIPPED is latched (R122, R123). -/
def Selector.choose (x : Selector) (now : PartTime) (valid : ViewNo → Bool) (snap : SignalSnapshot) : Selector × Bool :=
  match x.forced with
  | some f => ({ x with current := some f, candidate := none }, false)
  | none =>
    let found := findCandidate valid snap x.defaultView x.ruleList
    (x.chooseFrom now valid found, found.skipped)

/-- A view is VALID (R75). -/
def State.viewValid (s : State) (v : ViewNo) : Bool := decide ((s.view v).state = .valid)

/-- The selector's work at an output frame start in RUN: ageing, snapshot, choice, and its latches (R116, R117, R122 to R125). -/
def State.selectAtRunStart (s : State) : State :=
  let x := s.selector
  let signals := x.signals.aged s.partTime x.timeouts
  let snap := signals.snapshot
  let chosen := Selector.choose { x with signals := signals, snapshot := some snap } s.partTime s.viewValid snap
  (s.setSelector chosen.1).raiseLatches
    (latchIf chosen.2 .ruleSkipped ++ latchIf (decide (chosen.1.current ≠ x.current)) .viewSwitched)

/-- The selector's work at an output frame start in CONFIG: ageing alone, no snapshot and no view in use (R76, R116, R130). -/
def State.selectAtConfigStart (s : State) : State :=
  s.setSelector { s.selector with
    signals := s.selector.signals.aged s.partTime s.selector.timeouts
    snapshot := none
    current := none }

/-! ## Leaving RUN and resets (R85, R130, R131) -/

/-- The force released when the forced view leaves VALID, latching FORCE_RELEASED (R85). -/
def State.releaseForce (s : State) (v : ViewNo) : State :=
  if s.selector.forced = some v then (s.setSelector { s.selector with forced := none }).raiseLatch .forceReleased else s

/-- The selector after a fall to CONFIG at a RELOCK expiry (R63, R130). -/
def Selector.fallen (x : Selector) : Selector := { x with current := none, candidate := none }

/-- The selector after the soft restart (R131). -/
def Selector.restarted (x : Selector) : Selector :=
  { x with signals := .cleared, snapshot := none, current := none, candidate := none, forced := none }

end Sys2Proof.Machine
end

