-- ==== Sys2Proof/Machine/Views.lean ====
section
/-!
DEFINITION. The view store's requests (chapter 4) and the force (R127, R128). Each effect answers a message that has passed the
whole-message tests; its view number is byte 1 of the payload (R184).
-/
namespace Sys2Proof.Machine

/-- A format's grid columns (R48). -/
def gridColumns (f : FormatNo) : Nat :=
  match f with
  | 0 => 25
  | 1 => 32
  | _ => 40

/-- A format's grid rows (R48). -/
def gridRows (f : FormatNo) : Nat :=
  match f with
  | 0 => 15
  | 1 => 24
  | _ => 25

/-- A view's grid equals a format's grid (R48, R66). -/
def View.fitsGrid (x : View) (f : FormatNo) : Bool := decide (x.header.columns = gridColumns f) && decide (x.header.rows = gridRows f)

/-- The view is the default view and the part is in RUN, which protects it (R87). -/
def State.protectedDefault (s : State) (v : ViewNo) : Bool := decide (v = s.selector.defaultView) && s.isRun

/-- The state with a view's state changed. -/
def State.setViewState (s : State) (v : ViewNo) (st : ViewState) : State := s.setView v { s.view v with state := st }

/-- The view a view request names, or the refusal of a number above 7. -/
def withView (m : Message) (s : State) (f : ViewNo → Answer) : Answer :=
  match toFin? 8 (u8 m.payload 1) with
  | none => refuse s .badIndex
  | some v => f v

/-- The effect of a VIEW_OPEN FRESH that is taken: LOADING, nothing written, and the force released where it named this view
(R77, R85). -/
def State.openFresh (s : State) (v : ViewNo) : State :=
  (s.setView v { s.view v with state := .loading, headerWritten := false, written := [] }).releaseForce v

/-- VIEW_OPEN FRESH (R77), and the refusal of an undefined mode. -/
def openFreshEffect (m : Message) (s : State) : Answer :=
  withView m s fun v =>
    if u8 m.payload 2 ≠ 0 then refuse s .malformed else
    match (s.view v).state with
    | .empty => done (s.openFresh v) []
    | .loading => refuse s .badState
    | .valid => if s.inUse v || s.protectedDefault v then refuse s .badState else done (s.openFresh v) []
    | .withdrawn => if s.inUse v then refuse s .busy else done (s.openFresh v) []

/-- VIEW_OPEN EDIT (R78). -/
def openEditEffect (m : Message) (s : State) : Answer :=
  withView m s fun v =>
    match (s.view v).state with
    | .withdrawn => if s.inUse v then refuse s .busy else done (s.setViewState v .loading) []
    | _ => refuse s .badState

/-- The tile indices below the tile count that are not in the tile-written set (R81). -/
def View.missing (x : View) : List Nat := (List.range x.header.tileCount).filter fun i => !(Table.read false x.written i)

/-- The completeness items of a refused VIEW_CLOSE: the header-written mark, the number of missing tiles and the lowest, or 1024
(R81, R188). -/
def View.completenessItems (x : View) : List Byte :=
  byteOf (bit x.headerWritten) :: (le16 x.missing.length ++ le16 (x.missing.headD 1024))

/-- VIEW_CLOSE (R81). -/
def closeEffect (m : Message) (s : State) : Answer :=
  withView m s fun v =>
    let x := s.view v
    if x.state ≠ .loading then refuse s .badState
    else if x.headerWritten = false ∨ x.missing ≠ [] then ⟨s, some (.incomplete, x.completenessItems)⟩
    else if s.isRun = true ∧ x.fitsGrid s.output.format = false then refuse s .gridMismatch
    else done (s.setViewState v .valid) []

/-- VIEW_WITHDRAW (R83), releasing the force where it named this view (R85). -/
def withdrawEffect (m : Message) (s : State) : Answer :=
  withView m s fun v =>
    if (s.view v).state ≠ .valid ∨ s.protectedDefault v = true then refuse s .badState
    else done ((s.setViewState v .withdrawn).releaseForce v) []

/-- VIEW_RESTORE (R84). -/
def restoreEffect (m : Message) (s : State) : Answer :=
  withView m s fun v =>
    if (s.view v).state ≠ .withdrawn then refuse s .badState
    else if s.isRun = true ∧ (s.view v).fitsGrid s.output.format = false then refuse s .gridMismatch
    else done (s.setViewState v .valid) []

/-- VIEW_FORCE; its view number is byte 0 (R127, R184). -/
def forceEffect (m : Message) (s : State) : Answer :=
  match toFin? 8 (u8 m.payload 0) with
  | none => refuse s .badIndex
  | some v => if s.viewValid v then done (s.setSelector { s.selector with forced := some v }) [] else refuse s .badState

/-- VIEW_FORCE RELEASE (R128). -/
def releaseEffect (_ : Message) (s : State) : Answer := done (s.setSelector { s.selector with forced := none }) []

/-- A view after the soft restart: a LOADING view goes to EMPTY with nothing written (R90). -/
def View.restarted (x : View) : View :=
  if x.state = .loading then { x with state := .empty, headerWritten := false, written := [] } else x

/-- The view store after the soft restart (R90). -/
def restartViews (t : Table View) : Table View := Table.tabulate View.initial 8 fun i => (Table.read View.initial t i).restarted

end Sys2Proof.Machine
end

