-- ==== Sys2Proof/Machine/Zones.lean ====
section
/-!
DEFINITION. Watch zones (chapter 8): activity and arming, the detection step of a frame done, the hold timer, and the ways out
of RUN.
-/
namespace Sys2Proof.Machine

/-- The eight zones in order of number. -/
def allZones : List ZoneNo := [0, 1, 2, 3, 4, 5, 6, 7]

/-- The monitor with every zone replaced. -/
def ZoneMonitor.mapZones (m : ZoneMonitor) (f : Zone → Zone) : ZoneMonitor :=
  { m with zones := Table.tabulate Zone.initial 8 fun i => f (Table.read Zone.initial m.zones i) }

/-! ## Activity (R156) -/

/-- A zone in ALERT or HOLDING, whose mark the overlay draws (R146). -/
def ZoneState.marked : ZoneState → Bool
  | .alert => true
  | .holding _ => true
  | _ => false

/-- A record makes its zone active: enabled, in RUN, with a view in use in its mask (R156). -/
def ZoneRecord.active (r : ZoneRecord) (isRun : Bool) (view : Option ViewNo) : Bool := r.enable && isRun && maskHas r.viewMask view

/-- A zone's state once its activity is settled anew: DISARMED when inactive, armed with 8 frames left when it has become active or
is re-armed, unchanged otherwise (R156). -/
def ZoneState.settled (st : ZoneState) (active rearm : Bool) : ZoneState :=
  if active = false then .disarmed
  else if rearm = true ∨ st = .disarmed then .settling 8
  else st

/-- ZONE_FALL is latched when ALERT or HOLDING ends by a change of activity or a re-arming (R156). -/
def fallLatch (z : ZoneNo) (before after : ZoneState) : List Latch := latchIf (before.marked && !after.marked) (.zoneFall z)

/-- A zone at an output frame start in RUN, after the view in use is fixed (R164). -/
def Zone.atStart (x : Zone) (view : Option ViewNo) (switched : Bool) : Zone :=
  { x with state := x.state.settled (x.record.active true view) switched }

/-- The zone monitor at an output frame start in RUN (R164). -/
def State.zonesAtStart (s : State) (switched : Bool) : State :=
  let view := s.selector.current
  let after := s.monitor.mapZones fun x => x.atStart view switched
  (s.setMonitor after).raiseLatches
    (allZones.flatMap fun z => fallLatch z (s.monitor.zone z).state (after.zone z).state)

/-- A zone's record written (R154), and the zone's state as R156 then has it: any accepted write re-arms an active zone. -/
def State.writeZone (s : State) (z : ZoneNo) (r : ZoneRecord) : State :=
  let x := s.monitor.zone z
  let after := x.state.settled (r.active s.isRun s.selector.current) true
  (s.setMonitor (s.monitor.setZone z { x with record := r, state := after })).raiseLatches (fallLatch z x.state after)

/-! ## The detection step (R155, R158 to R163) -/

/-- The results a detection step works from: the means table and the grid of the view in use (R158). -/
structure TileResults where
  means : List TileMean
  columns : Nat
  rows : Nat

/-- The number of tiles of the grid. -/
def TileResults.count (x : TileResults) : Nat := x.columns * x.rows

/-- The mean and excluded mark of a tile. -/
def TileResults.mean (x : TileResults) (tile : Nat) : TileMean := x.means.getD tile ⟨0, true⟩

/-- A zone's rectangle covers a tile of the grid (R155). -/
def ZoneRecord.covers (r : ZoneRecord) (x : TileResults) (tile : Nat) : Bool :=
  decide (tile < x.count) && decide (r.tx0 ≤ tile % x.columns) && decide (tile % x.columns ≤ r.tx1)
    && decide (r.ty0 ≤ tile / x.columns) && decide (tile / x.columns ≤ r.ty1)

/-- The states in which a zone's tiles are tested for change (R159). -/
def ZoneState.watches : ZoneState → Bool
  | .quiet => true
  | .confirming _ => true
  | .alert => true
  | .holding _ => true
  | _ => false

/-- A tile's mean differs from its background by more than a threshold of levels (R159). -/
def differs (mean threshold : Nat) (b : BitVec 16) : Bool :=
  decide (threshold * 64 < ((mean * 64 : Int) - b.toNat).natAbs)

/-- A tile counts as changed for a zone (R159). -/
def changedFor (m : ZoneMonitor) (x : TileResults) (z : Zone) (tile : Nat) : Bool :=
  z.state.watches && z.record.covers x tile && !(x.mean tile).excluded && !(m.background tile).resume
    && differs (x.mean tile).mean z.record.threshold (m.background tile).level

/-- The number of tiles found changed for a zone (R158, R159). -/
def changedCount (m : ZoneMonitor) (x : TileResults) (z : Zone) : Nat :=
  ((List.range x.count).filter (changedFor m x z)).length

/-- A tile is covered by an active zone in SETTLING with 8 frames left (R160 case 2). -/
def freshlyArmed (m : ZoneMonitor) (x : TileResults) (tile : Nat) : Bool :=
  allZones.any fun z => decide ((m.zone z).state = .settling 8) && (m.zone z).record.covers x tile

/-- The smallest learn shift among the enabled zones whose rectangle covers a tile, 4 where there is none (R160). -/
def learnShift (m : ZoneMonitor) (x : TileResults) (tile : Nat) : Nat :=
  match ((allZones.filter fun z => (m.zone z).record.enable && (m.zone z).record.covers x tile).map fun z =>
      (m.zone z).record.learnShift) with
  | [] => 4
  | k :: rest => rest.foldl min k

/-- The background moved toward a mean by 1/2^k of the distance, rounding toward minus infinity (R160 case 3). -/
def learn (b : BitVec 16) (mean k : Nat) : BitVec 16 :=
  BitVec.ofNat 16 ((b.toNat : Int) + shiftRightFloor ((mean * 64 : Int) - b.toNat) k).toNat

/-- The new background entry of a tile of the grid (R160). -/
def newBackground (m : ZoneMonitor) (x : TileResults) (tile : Nat) : Background :=
  let old := m.background tile
  let r := x.mean tile
  if r.excluded then { old with resume := true }
  else if old.resume || freshlyArmed m x tile then ⟨BitVec.ofNat 16 (r.mean * 64), false⟩
  else ⟨learn old.level r.mean (learnShift m x tile), false⟩

/-- The state a zone moves to at a frame done, by its count of changed tiles (R161 to R163). -/
def ZoneState.step (st : ZoneState) (r : ZoneRecord) (changed : Nat) (now : PartTime) : ZoneState :=
  let hit := decide (r.trigger ≤ changed)
  match st with
  | .disarmed => .disarmed
  | .settling left => if left ≤ 1 then .quiet else .settling (left - 1)
  | .quiet => if hit then (if r.confirm ≤ 1 then .alert else .confirming 1) else .quiet
  | .confirming hits => if hit then (if r.confirm ≤ hits + 1 then .alert else .confirming (hits + 1)) else .quiet
  | .alert => if hit then .alert else if r.holdTime = 0 then .quiet else .holding now
  | .holding since => if hit then .alert else .holding since

/-- The latches of a zone's step: ZONE_RISE at an entry to ALERT from QUIET or CONFIRMING, ZONE_FALL when ALERT ends (R162, R163). -/
def stepLatches (z : ZoneNo) (before after : ZoneState) : List Latch :=
  latchIf (!before.marked && after.marked) (.zoneRise z) ++ fallLatch z before after

/-- A zone at a frame done (R158 part 3); the last changed count of a DISARMED zone stays. -/
def Zone.detect (x : Zone) (changed : Nat) (now : PartTime) : Zone :=
  { x with
    state := x.state.step x.record changed now
    lastChanged := if x.state = .disarmed then x.lastChanged else changed }

/-- The detection step: every test against the backgrounds as they stood before it (R158). -/
def ZoneMonitor.detect (m : ZoneMonitor) (x : TileResults) (now : PartTime) : ZoneMonitor where
  zones := (m.mapZones fun z => z.detect (changedCount m x z) now).zones
  backgrounds := Table.tabulate Background.initial 1024 fun tile =>
    if tile < x.count then newBackground m x tile else m.background tile

/-- The detection step of a frame done and its latches (R158 to R163). -/
def State.detect (s : State) (x : TileResults) : State :=
  let after := s.monitor.detect x s.partTime
  (s.setMonitor after).raiseLatches
    (allZones.flatMap fun z => stepLatches z (s.monitor.zone z).state (after.zone z).state)

/-- The hold timer's time has passed since it was started; it runs in HOLDING alone (R163). -/
def Zone.holdDue (x : Zone) (now : PartTime) : Bool :=
  match x.state with
  | .holding since => decide (x.record.holdTime * 1000 ≤ elapsed now since)
  | _ => false

/-- HOLD_TIMER_EXPIRY: the zone goes to QUIET and ZONE_FALL is latched (R163). -/
def State.holdExpiry (s : State) (z : ZoneNo) : State :=
  let x := s.monitor.zone z
  if x.holdDue s.partTime then (s.setMonitor (s.monitor.setZone z { x with state := .quiet })).raiseLatch (.zoneFall z) else s

/-! ## Out of RUN (R165, R166) -/

/-- The background table with every resume mark set (R160, R165). -/
def ZoneMonitor.resumeAll (m : ZoneMonitor) : ZoneMonitor :=
  { m with backgrounds := Table.tabulate Background.initial 1024 fun tile => { m.background tile with resume := true } }

/-- The monitor after the fall to CONFIG at a RELOCK expiry: every zone DISARMED, every resume mark set (R165). -/
def ZoneMonitor.fallen (m : ZoneMonitor) : ZoneMonitor := (m.mapZones fun x => { x with state := .disarmed }).resumeAll

/-- The fall to CONFIG for the zones, ZONE_FALL latched for each that was in ALERT or HOLDING (R165). -/
def State.zonesFall (s : State) : State :=
  (s.setMonitor s.monitor.fallen).raiseLatches (allZones.flatMap fun z => fallLatch z (s.monitor.zone z).state .disarmed)

/-- The monitor after the soft restart: the records and background values kept (R165, R166). -/
def ZoneMonitor.restarted (m : ZoneMonitor) : ZoneMonitor := (m.mapZones fun x => ⟨x.record, .disarmed, 0⟩).resumeAll

end Sys2Proof.Machine
end

