-- ==== Sys2Proof/Machine/TableWrites.lean ====
section
/-!
DEFINITION. TABLE_WRITE, target by target (R174): each target's own tests in their own order, the store after clamping, and a
reply that carries the record as stored.
-/
namespace Sys2Proof.Machine

/-! ## Camera record (R3, R4) -/

/-- Some slot of a list is HELD (R3 test 4). -/
def Pool.anyHeld (p : Pool) (l : List SlotNo) : Bool :=
  l.any fun k =>
    match p.slot k with
    | .held _ _ _ => true
    | _ => false

/-- A slot list names a slot of another camera's list (R3 test 5). -/
def State.slotConflict (s : State) (c : Camera) (l : List SlotNo) : Bool :=
  allCameras.any fun other => decide (other ≠ c) && l.any fun k => decide (k ∈ (s.channel other).record.slotList)

/-- TABLE_WRITE of a camera record (R3, R4). -/
def writeCameraRecord (m : Message) (s : State) : Answer :=
  match toFin? 4 m.index.toNat with
  | none => refuse s .badIndex
  | some c =>
    match readCameraRecord m.payload with
    | .error r => refuse s r
    | .ok record =>
      let ch := s.channel c
      if ch.state ≠ .off then refuse s .locked
      else if s.pool.anyHeld ch.record.slotList then refuse s .busy
      else if s.slotConflict c record.slotList then refuse s .conflict
      else done (s.setChannel c { ch with record := record }) (encodeCameraRecord record)

/-! ## View header and tile (R79, R80) -/

/-- TABLE_WRITE of a view header (R79). -/
def writeViewHeader (m : Message) (s : State) : Answer :=
  match toFin? 8 m.index.toNat with
  | none => refuse s .badIndex
  | some v =>
    match readViewHeader m.payload with
    | .error r => refuse s r
    | .ok header =>
      if (s.view v).state ≠ .loading then refuse s .locked
      else done (s.setView v { s.view v with header := header, headerWritten := true }) (encodeViewHeader header)

/-- A view with a tile record stored and its index in the tile-written set (R80). -/
def View.writeTile (x : View) (tile : Nat) (r : TileRecord) : View :=
  { x with tiles := Table.write TileRecord.cleared x.tiles tile r, written := Table.write false x.written tile true }

/-- TABLE_WRITE of a tile record; the sub-index is the view number (R80, R183). -/
def writeTile (m : Message) (s : State) : Answer :=
  match toFin? 8 m.sub.toNat, toFin? 1024 m.index.toNat with
  | some v, some tile =>
    match readTile m.payload with
    | .error r => refuse s r
    | .ok record =>
      if (s.view v).state ≠ .loading then refuse s .locked
      else done (s.setView v ((s.view v).writeTile tile.val record)) (encodeTile record)
  | _, _ => refuse s .badIndex

/-! ## Overlay targets (R138, R139) -/

/-- A write aimed at the active bank, or at either while a swap is pending, is LOCKED (R138 test 3). -/
def Overlay.bankLocked (o : Overlay) (which : BankId) : Bool := decide (which = o.active) || o.swapPending

/-- A bank write that has passed its index and form tests: refused with LOCKED, or stored in the bank (R138). -/
def storeInBank (s : State) (which : BankId) (f : Bank → Bank) (payload : List Byte) : Answer :=
  if s.overlay.bankLocked which then refuse s .locked
  else done (s.setOverlay (s.overlay.setBank which (f (s.overlay.bank which)))) payload

/-- TABLE_WRITE of an overlay element (R138, R139). -/
def writeElement (m : Message) (s : State) : Answer :=
  match toFin? 64 m.index.toNat with
  | none => refuse s .badIndex
  | some i =>
    match readElement m.payload with
    | .error r => refuse s r
    | .ok e =>
      storeInBank s (bankOf m) (fun x => { x with elements := Table.write Element.cleared x.elements i.val e }) (encodeElement e)

/-- TABLE_WRITE of a palette entry (R133, R138). -/
def writePalette (m : Message) (s : State) : Answer :=
  match toFin? 16 m.index.toNat with
  | none => refuse s .badIndex
  | some i =>
    let e := readPalette m.payload
    storeInBank s (bankOf m) (fun x => { x with palette := Table.write PaletteEntry.cleared x.palette i.val e }) (encodePalette e)

/-- A sprite chunk lies within the sprite area: its offset is at most 16,383 and its end at most 16,384 (R138 test 1). -/
def chunkInArea (offset length : Nat) : Bool := decide (offset ≤ 16383) && decide (offset + length ≤ 16384)

/-- The data bytes of a sprite chunk write, as many as the header's length says (R184). -/
def chunkBytes (m : Message) : List Byte := (List.range m.length.toNat).map (byteAt m.payload)

/-- TABLE_WRITE of a sprite chunk; the reply carries the offset and length written (R138, R139). -/
def writeSprite (m : Message) (s : State) : Answer :=
  if chunkInArea m.index.toNat m.length.toNat then
    storeInBank s (bankOf m) (fun x => { x with sprites := Table.writeMany 0 x.sprites m.index.toNat (chunkBytes m) })
      (le16 m.index.toNat ++ [m.length])
  else refuse s .badIndex

/-- TABLE_WRITE of a path band, which replaces the band's whole list (R138). -/
def writeBand (m : Message) (s : State) : Answer :=
  match toFin? 31 m.index.toNat with
  | none => refuse s .badIndex
  | some i =>
    match readBand m.payload with
    | .error r => refuse s r
    | .ok spans => storeInBank s (bankOf m) (fun x => { x with bands := Table.write [] x.bands i.val spans }) (encodeBand spans)

/-! ## Selector targets (R118, R120, R126) -/

/-- TABLE_WRITE of a selection rule (R120). -/
def writeRule (m : Message) (s : State) : Answer :=
  match toFin? 16 m.index.toNat with
  | none => refuse s .badIndex
  | some i =>
    match readRule m.payload with
    | .error r => refuse s r
    | .ok rule =>
      done (s.setSelector { s.selector with rules := Table.write Rule.cleared s.selector.rules i.val rule }) (encodeRule rule)

/-- TABLE_WRITE of the selection settings (R126). -/
def writeSettings (m : Message) (s : State) : Answer :=
  match toFin? 8 (u8 m.payload 0) with
  | none => refuse s .badIndex
  | some v =>
    if s.isRun = true ∧ s.viewValid v = false then refuse s .badState
    else
      let dwell := clampNat 0 2000 (u16 m.payload 1)
      done (s.setSelector { s.selector with defaultView := v, dwell := dwell }) (encodeSettings v dwell)

/-- TABLE_WRITE of the signal timeouts (R118). -/
def writeTimeouts (m : Message) (s : State) : Answer :=
  let r := readTimeouts m.payload
  done (s.setSelector { s.selector with timeouts := r }) (encodeTimeouts r)

/-! ## Zone record and counters (R154, R156, R174) -/

/-- TABLE_WRITE of a zone record (R154), acting on the zone's state by R156. -/
def writeZoneRecord (m : Message) (s : State) : Answer :=
  match toFin? 8 m.index.toNat with
  | none => refuse s .badIndex
  | some z =>
    match readZoneRecord m.payload with
    | .error r => refuse s r
    | .ok r => done (s.writeZone z r) (encodeZoneRecord r)

/-- TABLE_WRITE of the counters target: refused, an index above 4 with BAD_INDEX, any other with BAD_STATE (R174). -/
def writeCounters (m : Message) (s : State) : Answer := refuse s (if 4 < m.index.toNat then .badIndex else .badState)

end Sys2Proof.Machine
end

