-- ==== Sys2Proof/Machine/TableReads.lean ====
section
/-!
DEFINITION. TABLE_READ, target by target (R174), STATUS_READ (R175) and the execution of an undefined request (R168). A read
changes nothing and carries the record as it stands.
-/
namespace Sys2Proof.Machine

/-- A read of one of n numbered records, or the refusal of an index beyond them (R174). -/
def readIndexed (n : Nat) [NeZero n] (m : Message) (s : State) (f : Fin n → List Byte) : Answer :=
  match toFin? n m.index.toNat with
  | none => refuse s .badIndex
  | some i => done s (f i)

/-- TABLE_READ of a camera record (R174). -/
def readCamera (m : Message) (s : State) : Answer := readIndexed 4 m s fun c => encodeCameraRecord (s.channel c).record

/-- TABLE_READ of a view header, with the header-written mark and the view state (R74, R189). -/
def readHeader (m : Message) (s : State) : Answer :=
  readIndexed 8 m s fun v =>
    encodeViewHeader (s.view v).header ++ [byteOf (bit (s.view v).headerWritten), byteOf (s.view v).state.code]

/-- TABLE_READ of a tile record, with whether its index is in the tile-written set (R74, R186). -/
def readTileRecord (m : Message) (s : State) : Answer :=
  match toFin? 8 m.sub.toNat with
  | none => refuse s .badIndex
  | some v =>
    readIndexed 1024 m s fun i =>
      encodeTile (Table.read TileRecord.cleared (s.view v).tiles i.val)
        ++ [byteOf (bit (Table.read false (s.view v).written i.val))]

/-- TABLE_READ of an overlay element (R140). -/
def readElementRecord (m : Message) (s : State) : Answer :=
  readIndexed 64 m s fun i => encodeElement ((s.overlay.bank (bankOf m)).element i.val)

/-- TABLE_READ of a palette entry (R140). -/
def readPaletteEntry (m : Message) (s : State) : Answer :=
  readIndexed 16 m s fun i => encodePalette ((s.overlay.bank (bankOf m)).paletteEntry i.val)

/-- TABLE_READ of a sprite chunk: the payload byte gives the length, and one that is not 1 to 64, or a chunk beyond the area, is
BAD_INDEX (R140, R184). -/
def readSprite (m : Message) (s : State) : Answer :=
  let length := u8 m.payload 0
  if 1 ≤ length ∧ length ≤ 64 ∧ chunkInArea m.index.toNat length = true then
    done s ((List.range length).map fun i => (s.overlay.bank (bankOf m)).spriteByte (m.index.toNat + i))
  else refuse s .badIndex

/-- TABLE_READ of a path band, the whole span list with its count (R140). -/
def readBandRecord (m : Message) (s : State) : Answer :=
  readIndexed 31 m s fun i => encodeBand ((s.overlay.bank (bankOf m)).band i.val)

/-- TABLE_READ of a selection rule (R120). -/
def readRuleRecord (m : Message) (s : State) : Answer := readIndexed 16 m s fun i => encodeRule (s.selector.rule i.val)

/-- TABLE_READ of the selection settings (R174). -/
def readSettings (_ : Message) (s : State) : Answer := done s (encodeSettings s.selector.defaultView s.selector.dwell)

/-- TABLE_READ of a zone record, with the zone's state, count, last changed count and hold timer start (R154, R189). -/
def readZone (m : Message) (s : State) : Answer := readIndexed 8 m s fun z => encodeZone (s.monitor.zone z)

/-- TABLE_READ of the signal timeouts, with each entry's status, value and arrival time (R118, R189). -/
def readTimeoutsRecord (_ : Message) (s : State) : Answer :=
  done s (encodeTimeouts s.selector.timeouts ++ encodeSignals s.selector.signals)

/-- The two drop counters (R188). -/
def Management.encodeDrops (x : Management) : List Byte := le16 x.requestDrops.toNat ++ le16 x.signalDrops.toNat

/-- TABLE_READ of the counters target: index 0 to 3 a camera's counters and last-frame record, 4 the drop counters (R175, R188). -/
def readCounters (m : Message) (s : State) : Answer :=
  match toFin? 4 m.index.toNat with
  | some c => done s (encodeCounters (s.channel c).counters ++ encodeFrameRecord (s.channel c).lastFrame)
  | none => if m.index = 4 then done s s.mgmt.encodeDrops else refuse s .badIndex

/-- The operating state coded (R188). -/
def OpState.code : OpState → Nat
  | .config => 0
  | .run => 1

/-- The clock state coded (R188). -/
def Clock.code : Clock → Nat
  | .locked => 0
  | .settling _ _ _ => 1

/-- The restart cause coded (R188). -/
def RestartCause.code : RestartCause → Nat
  | .power => 0
  | .request => 1

/-- The status record of a STATUS_READ reply (R175, R188). -/
def State.encodeStatusRecord (s : State) : List Byte :=
  le32 s.output.frameCounter ++ le32 s.partTime
    ++ [byteOf s.output.opState.code, byteOf s.output.clock.code, byteOf s.output.format.val]
    ++ le16 s.output.restartCount.toNat ++ [byteOf s.output.restartCause.code]

/-- STATUS_READ: the status record, the counters of cameras 0 to 3, and the drop counters (R175, R188). -/
def statusReadEffect (_ : Message) (s : State) : Answer :=
  done s (s.encodeStatusRecord ++ allCameras.flatMap (fun c => encodeCounters (s.channel c).counters) ++ s.mgmt.encodeDrops)

/-- UNDEFINED_REQUEST: refused with MALFORMED (R168). -/
def undefinedEffect (_ : Message) (s : State) : Answer := refuse s .malformed

end Sys2Proof.Machine
end

