-- ==== Sys2Proof/Machine/Management.lean ====
section
/-!
DEFINITION. The management channel (chapter 9): arrival of requests, EVENT_TAKE, OVERLAY_SWAP and CAMERA_CONTROL as requests, and
the blanking with its status packet and reply packets.
-/
namespace Sys2Proof.Machine

/-! ## Arrival (R167, R169) -/

/-- A request offered to the request queue: it joins the tail, or is dropped while 16 wait (R169). -/
def State.offerRequest (s : State) (m : Message) : State :=
  if s.mgmt.requests.length < 16 then s.setMgmt { s.mgmt with requests := s.mgmt.requests ++ [m] }
  else (s.setMgmt { s.mgmt with requestDrops := raise s.mgmt.requestDrops 1 }).raiseLatch .requestDropped

/-- A control message that reaches the part: class SIGNAL goes to the selector, any other to the request queue (R167, R183). -/
def State.receive (s : State) (m : Message) : State := if m.cls = 2 then s.signalMessage m else s.offerRequest m

/-! ## Requests of other blocks (R24 to R26, R141, R142, R180) -/

/-- OVERLAY_SWAP (R141, R142). -/
def swapEffect (_ : Message) (s : State) : Answer :=
  if s.isRun then
    if s.overlay.swapPending then refuse s .busy
    else ⟨s.setOverlay { s.overlay with swapPending := true }, some (.accepted, [])⟩
  else done (s.setOverlay s.overlay.swapped) []

/-- The camera a CAMERA_CONTROL names, or the refusal of a number above 3 (section 1.11). -/
def withCamera (m : Message) (s : State) (f : Camera → Answer) : Answer :=
  match toFin? 4 (u8 m.payload 0) with
  | none => refuse s .badIndex
  | some c => f c

/-- CAMERA_CONTROL ENABLE (R24), and the refusal of an undefined action. -/
def enableEffect (m : Message) (s : State) : Answer :=
  withCamera m s fun c =>
    if u8 m.payload 1 ≠ 1 then refuse s .malformed
    else if (s.channel c).state = .off then done (s.enableCamera c) [] else refuse s .badState

/-- CAMERA_CONTROL DISABLE (R26). -/
def disableEffect (m : Message) (s : State) : Answer := withCamera m s fun c => done (s.disableCamera c) []

/-- CAMERA_CONTROL RESTART (R25). -/
def restartCameraEffect (m : Message) (s : State) : Answer :=
  withCamera m s fun c => if (s.channel c).state = .off then refuse s .badState else done (s.restartCamera c) []

/-- The mask of an EVENT_TAKE: bit n of a 48-bit little-endian value names latch n (R184). -/
def takeMask (p : List Byte) : Nat := u16 p 0 + 65536 * u16 p 2 + 4294967296 * u16 p 4

/-- The 43 latches as 6 bytes (R188). -/
def encodeLatches (l : Latches) : List Byte := le16 l.toNat ++ le16 (l.toNat / 65536) ++ le16 (l.toNat / 4294967296)

/-- EVENT_TAKE: the latches as they stood, those of the mask cleared; a number above 42 is MALFORMED (R180). -/
def eventTakeEffect (m : Message) (s : State) : Answer :=
  if takeMask m.payload < 2 ^ 43 then
    done (s.setMgmt { s.mgmt with latches := s.mgmt.latches &&& ~~~ (BitVec.ofNat 43 (takeMask m.payload)) })
      (encodeLatches s.mgmt.latches)
  else refuse s .malformed

/-! ## The blanking (R54, R176, R177, R188) -/

/-- A result coded (R188). -/
def Result.code : Result → Nat
  | .ok => 0
  | .accepted => 1
  | .malformed => 2
  | .badIndex => 3
  | .badState => 4
  | .locked => 5
  | .busy => 6
  | .incomplete => 7
  | .conflict => 8
  | .gridMismatch => 9
  | .lockFail => 10

/-- A reply packet: its 5-byte header and its payload (R188). -/
def encodeReply (r : Reply) : List Byte := [r.tag, r.kind, r.target, byteOf r.result.code, byteOf r.payload.length] ++ r.payload

/-- A view number, or 255 for none (R188). -/
def viewCode : Option ViewNo → Nat
  | none => 255
  | some v => v.val

/-- A channel state coded (R188). -/
def ChannelState.code : ChannelState → Nat
  | .off => 0
  | .acquiring => 1
  | .live => 2
  | .degraded => 3
  | .lost => 4
  | .halted => 5

/-- A channel's byte of the status packet: its state, CADENCE in bit 4 and FROZEN in bit 5 (R188). -/
def channelByte (ch : Channel) : Nat := ch.state.code + 16 * bit ch.reasons.cadence + 32 * bit ch.reasons.frozen

/-- The view states as two bits each, view 0 lowest (R188). -/
def State.viewStates (s : State) : Nat :=
  ((List.range 8).map fun v => (Table.read View.initial s.views v).state.code * 4 ^ v).sum

/-- The camera usable set of the frame (R42, R188). -/
def State.usableSet (s : State) : Nat := (allCameras.map fun c => bit (s.pool.snapshot.get c).isSome * 2 ^ c.val).sum

/-- The active bank, the swap-pending flag and the overlay-budget flag (R188). -/
def Overlay.statusByte (o : Overlay) : Nat := bit (decide (o.active = .b)) + 2 * bit o.swapPending + 4 * bit o.budget

/-- The 37 bytes of the status packet (R177, R188). -/
def State.statusPacket (s : State) : List Byte :=
  le32 s.output.frameCounter ++ le32 s.partTime
    ++ [byteOf s.output.opState.code, byteOf s.output.clock.code, byteOf s.output.format.val, byteOf (viewCode s.selector.current),
      byteOf (bit s.selector.forced.isSome), byteOf (viewCode (s.selector.candidate.map PendingCandidate.view))]
    ++ le16 s.viewStates ++ allCameras.map (fun c => byteOf (channelByte (s.channel c))) ++ [byteOf s.usableSet]
    ++ allZones.map (fun z => byteOf (s.monitor.zone z).state.code)
    ++ [byteOf s.overlay.statusByte, byteOf (groupSummaries s.mgmt.latches)] ++ le16 s.mgmt.requestDrops.toNat
    ++ le16 s.output.restartCount.toNat ++ [byteOf s.output.restartCause.code, byteOf s.mgmt.replies.length]

/-- BLANKING (R54): taken once after each frame done; the status packet, then up to 8 of the oldest replies, which leave the queue. -/
def State.blanking (s : State) : State :=
  if s.output.phase = .done then
    ((s.setPort { s.port with status := s.statusPacket, replies := (s.mgmt.replies.take 8).map encodeReply }).setMgmt
      { s.mgmt with replies := s.mgmt.replies.drop 8 }).setOutput { s.output with phase := .blanked }
  else s

end Sys2Proof.Machine
end

