-- ==== Sys2Proof/Config.lean ====
section
/-!
DEFINITION. What the spec leaves open and the model must not fix: constants with no body, so that nothing can be proved of
their values.
-/
namespace Sys2Proof

/-- FREE VALUE (notes/assumptions/6.md). How many active lines of an output frame that started at the first part time have
been sent on the display port at the second. The spec gives the time of a frame's start and of its frame done (R49), not of
the lines between them, so the number of lines a cut or abandoned frame had sent is not stated. -/
opaque Config.linesSent : PartTime → PartTime → Nat

end Sys2Proof
end

