-- ==== Sys2Proof/Machine/OutputTiming.lean ====
section
/-!
DEFINITION. Output frames, clock and operating states (chapter 3): the output frame start and frame done, which gather the work of
every block, the clock's events, and the FORMAT, RUN and RESTART requests.
-/
namespace Sys2Proof.Machine

/-! ## The timing of a frame (R49) -/

/-- The interval in µs that follows the start at each place of the repeating group of three (R49). -/
def startInterval (f : FormatNo) (place : Fin 3) : Nat :=
  match f, place with
  | 3, 0 => 33334
  | 3, _ => 33333
  | _, 1 => 16666
  | _, _ => 16667

/-- How long after its start a frame's frame done falls, in µs (R49). -/
def doneAfter (f : FormatNo) : Nat :=
  match f with
  | 0 => 15010
  | 1 => 15059
  | 2 => 15015
  | 3 => 30030

/-- The next output frame start has come: the clock is LOCKED, and either output begins or resumes, or the blanking of the frame
in progress is over (R49, R50, R54). -/
def State.startDue (s : State) : Bool :=
  decide (s.output.clock = .locked) &&
    match s.output.phase with
    | .none => true
    | .blanked => decide (startInterval s.output.format s.output.groupPos ≤ elapsed s.partTime s.output.startedAt)
    | _ => false

/-- The frame done of the frame in progress has come (R49). -/
def State.doneDue (s : State) : Bool :=
  decide (s.output.phase = .active) && decide (doneAfter s.output.format ≤ elapsed s.partTime s.output.startedAt)

/-! ## Output frame start (R51) -/

/-- The unit at an output frame start: the counter raised, the active period open, the kind fixed, the place in the group of
three (R49, R51, R52). -/
def OutputUnit.started (o : OutputUnit) (now : PartTime) : OutputUnit :=
  { o with
    frameCounter := o.frameCounter + 1
    phase := .active
    frameKind := o.opState
    startedAt := now
    groupPos := if o.phase = .none then 0 else o.groupPos + 1 }

/-- What the draw list of this start is fixed from; the zone states are those before the zones' own step (R51, R145, R146). -/
def State.drawInputs (s : State) (snap : SignalSnapshot) : DrawInputs where
  view := s.selector.current
  zoneMarked := fun z => (s.monitor.zone z).state.marked
  usable := fun c => (s.pool.snapshot.get c).isSome
  signals := snap
  frameCounter := s.output.frameCounter

/-- The overlay engine at a start in RUN: a pending swap carried out, then the draw list fixed from the active bank and the budget
flag cleared (R143, R145). -/
def State.overlayAtStart (s : State) (snap : SignalSnapshot) : State :=
  let o := if s.overlay.swapPending then s.overlay.swapped else s.overlay
  s.setOverlay { o with drawList := drawListOf (s.drawInputs snap) o.activeBank, budget := false }

/-- The compositor at a start in RUN: COMPOSING through the view in use (R92). -/
def State.composeAtStart (s : State) : State :=
  match s.selector.current with
  | none => s.setCompositor .idle
  | some v => s.setCompositor (.begin v (s.view v).header)

/-- What every start does first: the frame counter and AGED marks, and no line of the new frame sent yet (R39, R51). -/
def State.openFrame (s : State) : State :=
  ((s.setOutput (s.output.started s.partTime)).setPool (s.pool.markAged s.partTime)).setPort { s.port with lines := [] }

/-- The blocks' work at an output frame start in RUN, in the order their values are read (R51): hold and camera snapshot, selector,
overlay, zones, compositor. -/
def State.runStart (s : State) : State :=
  let held := s.holdAll
  let chosen := held.selectAtRunStart
  let snap := chosen.selector.signals.snapshot
  let drawn := chosen.overlayAtStart snap
  let armed := drawn.zonesAtStart (decide (chosen.selector.current ≠ s.selector.current))
  armed.composeAtStart

/-- The blocks' work at an output frame start in CONFIG (R51): no camera is usable, no view in use, nothing to draw. -/
def State.configStart (s : State) : State :=
  let chosen := s.selectAtConfigStart
  ((chosen.setPool chosen.pool.noSnapshot).setOverlay { chosen.overlay with drawList := [], budget := false }).setCompositor .idle

/-- OUTPUT_FRAME_START (R51). -/
def State.frameStart (s : State) : State :=
  if s.startDue then (if s.isRun then s.openFrame.runStart else s.openFrame.configStart) else s

/-! ## Frame done (R53) -/

/-- The frame in progress has composition under way, which its frame done or an abandon ends (R91). -/
def State.composing (s : State) : Bool := s.scene.isSome

/-- The end of a composition at its frame done: the means to zones, the held slots settled, the compositor IDLE (R53, R94). -/
def State.finishComposition (s : State) : State :=
  match s.scene with
  | none => s
  | some sc =>
    let detected := s.detect ⟨meansTable sc, sc.header.columns, sc.header.rows⟩
    (detected.setPool detected.pool.settle).setCompositor .idle

/-- FRAME_DONE (R53): the last active line sent, the composition ended where there is one, the active period closed. -/
def State.frameDone (s : State) : State :=
  if s.doneDue then
    let ended := (s.sendTo (activeHeight s.output.format)).finishComposition
    ended.setOutput { ended.output with phase := .done }
  else s

/-! ## Cuts, abandons and falls (R55, R57, R61 to R63) -/

/-- The lines a frame in its active period has sent by now: a free value, at most the active lines (notes/assumptions/6.md). -/
def State.linesByNow (s : State) : Nat := min (Config.linesSent s.output.startedAt s.partTime) (activeHeight s.output.format)

/-- The frame in progress stopped where it stands: in its active period the lines sent by now are its last (R55, R57, R95). It is cut
between two lines: what a line carries whose middle the cut falls into is left open, and the model has no such line (DESIGN CHOICE,
notes/assumptions/23.md). -/
def State.stopLines (s : State) : State := if s.output.phase = .active then s.sendTo s.linesByNow else s

/-- The composition abandoned by an unlock: the means discarded, the draw list discarded, the held slots settled (R45, R55, R95, R150).
The camera snapshot of the abandoned frame stands until the next output frame start (DESIGN CHOICE, notes/assumptions/24.md). -/
def State.abandon (s : State) : State :=
  if s.composing then
    ((s.setPool s.pool.settle).setOverlay { s.overlay with drawList := [] }).setCompositor .idle
  else s

/-- A lock attempt begins: the clock SETTLING, the lock timer started, no frame in progress (R50, R57, R61). -/
def State.beginAttempt (s : State) (kind : AttemptKind) (target : FormatNo) : State :=
  s.setOutput { s.output with format := target, clock := .settling kind target s.partTime, phase := .none }

/-- The clock LOCKED in a format, with output to begin by an output frame start at once (R56, R58, R59, R62). -/
def State.lockIn (s : State) (f : FormatNo) : State := s.setOutput { s.output with format := f, clock := .locked, phase := .none }

/-- The lock timer of an attempt of a kind has run 20,000 µs (R50). -/
def State.lockExpired (s : State) (kind : AttemptKind) : Bool :=
  match s.output.clock with
  | .locked => false
  | .settling k _ since => decide (k = kind) && decide (20000 ≤ elapsed s.partTime since)

/-- An attempt of a kind is in progress (R50). -/
def State.attempting (s : State) (kind : AttemptKind) : Bool :=
  match s.output.clock with
  | .locked => false
  | .settling k _ _ => decide (k = kind)

/-- The FORMAT request's execution ends with a result: its reply enters the queue and the executor is IDLE (R58, R59, R170). -/
def State.endFormat (s : State) (r : Result) : State :=
  match s.mgmt.executor with
  | .idle => s
  | .attempt m => (s.setMgmt { s.mgmt with executor := .idle }).pushReply m r []

/-- UNLOCK_EVENT (R61): taken while the clock is LOCKED in format 1, 2 or 3. -/
def State.unlock (s : State) : State :=
  if s.output.clock = .locked ∧ s.output.format ≠ 0 then
    ((s.stopLines.abandon).beginAttempt .relock s.output.format).raiseLatch .unlocked
  else s

/-- LOCK_EVENT_FORMAT (R58). -/
def State.lockFormat (s : State) : State :=
  if s.attempting .format then (s.lockIn s.output.format).endFormat .ok else s

/-- LOCK_EVENT_RELOCK (R62). -/
def State.lockRelock (s : State) : State := if s.attempting .relock then s.lockIn s.output.format else s

/-- FORMAT_LOCK_EXPIRY (R59). -/
def State.expireFormat (s : State) : State :=
  if s.lockExpired .format then ((s.lockIn 0).raiseLatch .lockFail).endFormat .lockFail else s

/-- The fall of a RELOCK expiry from RUN to CONFIG (R63): the zones disarmed, the view in use none, a pending swap carried out. The
camera snapshot, which R63 does not list, stands until the next output frame start (DESIGN CHOICE, notes/assumptions/24.md). -/
def State.fallToConfig (s : State) : State :=
  let zoned := s.zonesFall
  let selected := zoned.setSelector zoned.selector.fallen
  let swapped := selected.setOverlay (if selected.overlay.swapPending then selected.overlay.swapped else selected.overlay)
  swapped.setOutput { swapped.output with opState := .config }

/-- RELOCK_EXPIRY (R62). -/
def State.expireRelock (s : State) : State :=
  if s.lockExpired .relock then
    let locked := (s.lockIn 0).raiseLatch .lockFail
    if s.isRun then locked.fallToConfig else locked
  else s

/-! ## FORMAT, RUN and RESTART (R56, R57, R66, R67, R69, R172) -/

/-- FORMAT (R56, R57): no change, refused, at once to format 0, or a lock attempt that holds its reply back. -/
def formatEffect (m : Message) (s : State) : Answer :=
  match toFin? 4 (u8 m.payload 0) with
  | none => refuse s .malformed
  | some f =>
    let unchanged := decide (f = s.output.format) && decide (s.output.clock = .locked)
    if s.isRun then (if decide (f = 0) && unchanged then done s [] else refuse s .badState)
    else if unchanged then done s []
    else if f = 0 then done (s.stopLines.lockIn 0) []
    else
      let begun := s.stopLines.beginAttempt .format f
      ⟨begun.setMgmt { begun.mgmt with executor := .attempt m }, none⟩

/-- Every VALID view's grid equals the grid of the format in effect (R66 test 4, R68). -/
def State.gridsFit (s : State) : Bool :=
  (List.range 8).all fun v =>
    let x := Table.read View.initial s.views v
    decide (x.state ≠ .valid) || x.fitsGrid s.output.format

/-- The four cameras' counters set to 0 (R27, R67). -/
def State.zeroCounters (s : State) : State :=
  { s with channels := .build fun c => { s.channel c with counters := .zero } }

/-- RUN (R66, R67). -/
def runEffect (_ : Message) (s : State) : Answer :=
  if s.isRun then refuse s .badState
  else if s.output.clock ≠ .locked then refuse s .busy
  else if s.viewValid s.selector.defaultView = false then refuse s .incomplete
  else if s.gridsFit = false then refuse s .gridMismatch
  else done ((s.setOutput { s.output with opState := .run }).zeroCounters) []

/-- The output timing unit after the soft restart: CONFIG, the restart recorded, and everything else going on (R69). The kind of the frame
in progress was fixed at its start and stays (R52): a RUN frame that is abandoned goes on black as a RUN frame (R52 to R55). -/
def OutputUnit.restarted (o : OutputUnit) : OutputUnit :=
  { o with opState := .config, restartCount := raise o.restartCount 1, restartCause := .request }

/-- The soft restart of every block: R28, R47, R69, R90, R91, R131, R151, R166 and R182. The lines already sent of a frame being
composed stand, and its remaining lines are black (R52), from a whole line on (notes/assumptions/23.md). -/
def State.softRestart (s : State) : State :=
  let sent := if s.composing then s.stopLines else s
  { sent with
    channels := .build fun c => (s.channel c).restarted
    pool := s.pool.cleared
    views := restartViews s.views
    selector := s.selector.restarted
    compositor := .idle
    overlay := s.overlay.restarted
    monitor := s.monitor.restarted
    output := s.output.restarted
    mgmt := .initial }

/-- RESTART (R172): no reply. -/
def restartEffect (_ : Message) (s : State) : Answer := ⟨s.softRestart, none⟩

/-- POWER_ON (R70): every block in its initial state; the pixels of the DRAM are not cleared (R47). The queue of commands that
wait is the world's, not the part's, and stays. -/
def State.powerOn (s : State) : State := { State.reset with pending := s.pending, pool := s.pool.cleared }

end Sys2Proof.Machine
end

