-- ==== Sys2Proof/Machine/Events.lean ====
section
/-!
DEFINITION. The meanings of the commands that the outside world and the part's own timers make: the marks and link changes of the
cameras, the timers, the clock's events, the output frame, and the arrival of control messages. One definition for each row of
spec/opcode_table.json; each first lets part time pass to the command's own.
-/
namespace Sys2Proof.Machine

/-- POWER_ON (R70): every block in its initial state. -/
def execPowerOn (s : State) : Host.Outcome State Fault Refusal := .next s.powerOn

/-- FRAME_OPEN (R5, R13 to R16, R22, R33). -/
def execFrameOpen (t : PartTime) (c : Camera) (number : BitVec 16) (s : State) : Host.Outcome State Fault Refusal :=
  .next ((s.atTime t).frameOpen c number)

/-- LINE (R6 to R9). -/
def execLine (t : PartTime) (c : Camera) (n : BitVec 16) (samples : LineSamples) (good : Bool) (s : State) :
    Host.Outcome State Fault Refusal :=
  .next ((s.atTime t).line c n samples good)

/-- FRAME_CLOSE (R10 to R12, R17). -/
def execFrameClose (t : PartTime) (c : Camera) (claimed : BitVec 16) (s : State) : Host.Outcome State Fault Refusal :=
  .next ((s.atTime t).frameClose c claimed)

/-- LINK_DOWN (R21, R23). -/
def execLinkDown (t : PartTime) (c : Camera) (s : State) : Host.Outcome State Fault Refusal := .next ((s.atTime t).linkDown c)

/-- LINK_UP (R21): no effect of its own. -/
def execLinkUp (t : PartTime) (_ : Camera) (s : State) : Host.Outcome State Fault Refusal := .next (s.atTime t)

/-- LOSS_TIMER_EXPIRY (R20, R23). -/
def execLossTimerExpiry (t : PartTime) (c : Camera) (s : State) : Host.Outcome State Fault Refusal :=
  .next ((s.atTime t).lossExpiry c)

/-- LOCK_EVENT_FORMAT (R58). -/
def execLockEventFormat (t : PartTime) (s : State) : Host.Outcome State Fault Refusal := .next (s.atTime t).lockFormat

/-- LOCK_EVENT_RELOCK (R62). -/
def execLockEventRelock (t : PartTime) (s : State) : Host.Outcome State Fault Refusal := .next (s.atTime t).lockRelock

/-- FORMAT_LOCK_EXPIRY (R59). -/
def execFormatLockExpiry (t : PartTime) (s : State) : Host.Outcome State Fault Refusal := .next (s.atTime t).expireFormat

/-- RELOCK_EXPIRY (R62, R63). -/
def execRelockExpiry (t : PartTime) (s : State) : Host.Outcome State Fault Refusal := .next (s.atTime t).expireRelock

/-- UNLOCK_EVENT (R61). -/
def execUnlockEvent (t : PartTime) (s : State) : Host.Outcome State Fault Refusal := .next (s.atTime t).unlock

/-- HOLD_TIMER_EXPIRY (R163). -/
def execHoldTimerExpiry (t : PartTime) (z : ZoneNo) (s : State) : Host.Outcome State Fault Refusal :=
  .next ((s.atTime t).holdExpiry z)

/-- OUTPUT_FRAME_START (R51). -/
def execOutputFrameStart (t : PartTime) (s : State) : Host.Outcome State Fault Refusal := .next (s.atTime t).frameStart

/-- FRAME_DONE (R53). -/
def execFrameDone (t : PartTime) (s : State) : Host.Outcome State Fault Refusal := .next (s.atTime t).frameDone

/-- BLANKING (R54, R176). -/
def execBlanking (t : PartTime) (s : State) : Host.Outcome State Fault Refusal := .next (s.atTime t).blanking

/-- REQUEST_ARRIVAL (R167, R169). -/
def execRequestArrival (t : PartTime) (m : Message) (s : State) : Host.Outcome State Fault Refusal :=
  .next ((s.atTime t).receive m)

/-- SIGNAL_MESSAGE (R115, R167). -/
def execSignalMessage (t : PartTime) (m : Message) (s : State) : Host.Outcome State Fault Refusal :=
  .next ((s.atTime t).receive m)

end Sys2Proof.Machine
end

