-- ==== Sys2Proof/Machine/Requests.lean ====
section
/-!
DEFINITION. The meanings of the commands that execute a request: one definition for each such row of spec/opcode_table.json. Each
is one execution of the request at the head of the request queue (R170): it is taken and executed where the executor may take it
and where it is a request of that row; where it is not, the executor waits and only part time passes
(notes/assumptions/1.md).
-/
namespace Sys2Proof.Machine

/-- UNDEFINED_REQUEST (R168). -/
def execUndefinedRequest (t : PartTime) (s : State) : Host.Outcome State Fault Refusal :=
  .next (executeRequest .undefinedRequest t undefinedEffect s)

/-- STATUS_READ (R175). -/
def execStatusRead (t : PartTime) (s : State) : Host.Outcome State Fault Refusal :=
  .next (executeRequest .statusRead t statusReadEffect s)

/-- TABLE_WRITE_CAMERA_RECORD (R3). -/
def execTableWriteCameraRecord (t : PartTime) (s : State) : Host.Outcome State Fault Refusal :=
  .next (executeRequest .tableWriteCameraRecord t writeCameraRecord s)

/-- TABLE_WRITE_VIEW_HEADER (R79). -/
def execTableWriteViewHeader (t : PartTime) (s : State) : Host.Outcome State Fault Refusal :=
  .next (executeRequest .tableWriteViewHeader t writeViewHeader s)

/-- TABLE_WRITE_TILE (R80). -/
def execTableWriteTile (t : PartTime) (s : State) : Host.Outcome State Fault Refusal :=
  .next (executeRequest .tableWriteTile t writeTile s)

/-- TABLE_WRITE_OVERLAY_ELEMENT (R138). -/
def execTableWriteOverlayElement (t : PartTime) (s : State) : Host.Outcome State Fault Refusal :=
  .next (executeRequest .tableWriteOverlayElement t writeElement s)

/-- TABLE_WRITE_PALETTE_ENTRY (R138). -/
def execTableWritePaletteEntry (t : PartTime) (s : State) : Host.Outcome State Fault Refusal :=
  .next (executeRequest .tableWritePaletteEntry t writePalette s)

/-- TABLE_WRITE_SPRITE_CHUNK (R138). -/
def execTableWriteSpriteChunk (t : PartTime) (s : State) : Host.Outcome State Fault Refusal :=
  .next (executeRequest .tableWriteSpriteChunk t writeSprite s)

/-- TABLE_WRITE_PATH_BAND (R138). -/
def execTableWritePathBand (t : PartTime) (s : State) : Host.Outcome State Fault Refusal :=
  .next (executeRequest .tableWritePathBand t writeBand s)

/-- TABLE_WRITE_RULE (R120). -/
def execTableWriteRule (t : PartTime) (s : State) : Host.Outcome State Fault Refusal :=
  .next (executeRequest .tableWriteRule t writeRule s)

/-- TABLE_WRITE_SELECTION_SETTINGS (R126). -/
def execTableWriteSelectionSettings (t : PartTime) (s : State) : Host.Outcome State Fault Refusal :=
  .next (executeRequest .tableWriteSelectionSettings t writeSettings s)

/-- TABLE_WRITE_ZONE_RECORD (R154). -/
def execTableWriteZoneRecord (t : PartTime) (s : State) : Host.Outcome State Fault Refusal :=
  .next (executeRequest .tableWriteZoneRecord t writeZoneRecord s)

/-- TABLE_WRITE_SIGNAL_TIMEOUTS (R118). -/
def execTableWriteSignalTimeouts (t : PartTime) (s : State) : Host.Outcome State Fault Refusal :=
  .next (executeRequest .tableWriteSignalTimeouts t writeTimeouts s)

/-- TABLE_WRITE_COUNTERS (R174). -/
def execTableWriteCounters (t : PartTime) (s : State) : Host.Outcome State Fault Refusal :=
  .next (executeRequest .tableWriteCounters t writeCounters s)

/-- TABLE_READ_CAMERA_RECORD (R174). -/
def execTableReadCameraRecord (t : PartTime) (s : State) : Host.Outcome State Fault Refusal :=
  .next (executeRequest .tableReadCameraRecord t readCamera s)

/-- TABLE_READ_VIEW_HEADER (R74). -/
def execTableReadViewHeader (t : PartTime) (s : State) : Host.Outcome State Fault Refusal :=
  .next (executeRequest .tableReadViewHeader t readHeader s)

/-- TABLE_READ_TILE (R74). -/
def execTableReadTile (t : PartTime) (s : State) : Host.Outcome State Fault Refusal :=
  .next (executeRequest .tableReadTile t readTileRecord s)

/-- TABLE_READ_OVERLAY_ELEMENT (R140). -/
def execTableReadOverlayElement (t : PartTime) (s : State) : Host.Outcome State Fault Refusal :=
  .next (executeRequest .tableReadOverlayElement t readElementRecord s)

/-- TABLE_READ_PALETTE_ENTRY (R140). -/
def execTableReadPaletteEntry (t : PartTime) (s : State) : Host.Outcome State Fault Refusal :=
  .next (executeRequest .tableReadPaletteEntry t readPaletteEntry s)

/-- TABLE_READ_SPRITE_CHUNK (R140). -/
def execTableReadSpriteChunk (t : PartTime) (s : State) : Host.Outcome State Fault Refusal :=
  .next (executeRequest .tableReadSpriteChunk t readSprite s)

/-- TABLE_READ_PATH_BAND (R140). -/
def execTableReadPathBand (t : PartTime) (s : State) : Host.Outcome State Fault Refusal :=
  .next (executeRequest .tableReadPathBand t readBandRecord s)

/-- TABLE_READ_RULE (R120). -/
def execTableReadRule (t : PartTime) (s : State) : Host.Outcome State Fault Refusal :=
  .next (executeRequest .tableReadRule t readRuleRecord s)

/-- TABLE_READ_SELECTION_SETTINGS (R174). -/
def execTableReadSelectionSettings (t : PartTime) (s : State) : Host.Outcome State Fault Refusal :=
  .next (executeRequest .tableReadSelectionSettings t readSettings s)

/-- TABLE_READ_ZONE_RECORD (R154). -/
def execTableReadZoneRecord (t : PartTime) (s : State) : Host.Outcome State Fault Refusal :=
  .next (executeRequest .tableReadZoneRecord t readZone s)

/-- TABLE_READ_SIGNAL_TIMEOUTS (R118). -/
def execTableReadSignalTimeouts (t : PartTime) (s : State) : Host.Outcome State Fault Refusal :=
  .next (executeRequest .tableReadSignalTimeouts t readTimeoutsRecord s)

/-- TABLE_READ_COUNTERS (R175). -/
def execTableReadCounters (t : PartTime) (s : State) : Host.Outcome State Fault Refusal :=
  .next (executeRequest .tableReadCounters t readCounters s)

/-- VIEW_OPEN_FRESH (R77). -/
def execViewOpenFresh (t : PartTime) (s : State) : Host.Outcome State Fault Refusal :=
  .next (executeRequest .viewOpenFresh t openFreshEffect s)

/-- VIEW_OPEN_EDIT (R78). -/
def execViewOpenEdit (t : PartTime) (s : State) : Host.Outcome State Fault Refusal :=
  .next (executeRequest .viewOpenEdit t openEditEffect s)

/-- VIEW_CLOSE (R81). -/
def execViewClose (t : PartTime) (s : State) : Host.Outcome State Fault Refusal :=
  .next (executeRequest .viewClose t closeEffect s)

/-- VIEW_WITHDRAW (R83). -/
def execViewWithdraw (t : PartTime) (s : State) : Host.Outcome State Fault Refusal :=
  .next (executeRequest .viewWithdraw t withdrawEffect s)

/-- VIEW_RESTORE (R84). -/
def execViewRestore (t : PartTime) (s : State) : Host.Outcome State Fault Refusal :=
  .next (executeRequest .viewRestore t restoreEffect s)

/-- OVERLAY_SWAP (R141). -/
def execOverlaySwap (t : PartTime) (s : State) : Host.Outcome State Fault Refusal :=
  .next (executeRequest .overlaySwap t swapEffect s)

/-- CAMERA_ENABLE (R24). -/
def execCameraEnable (t : PartTime) (s : State) : Host.Outcome State Fault Refusal :=
  .next (executeRequest .cameraEnable t enableEffect s)

/-- CAMERA_DISABLE (R26). -/
def execCameraDisable (t : PartTime) (s : State) : Host.Outcome State Fault Refusal :=
  .next (executeRequest .cameraDisable t disableEffect s)

/-- CAMERA_RESTART (R25). -/
def execCameraRestart (t : PartTime) (s : State) : Host.Outcome State Fault Refusal :=
  .next (executeRequest .cameraRestart t restartCameraEffect s)

/-- VIEW_FORCE (R127). -/
def execViewForce (t : PartTime) (s : State) : Host.Outcome State Fault Refusal :=
  .next (executeRequest .viewForce t forceEffect s)

/-- VIEW_FORCE_RELEASE (R128). -/
def execViewForceRelease (t : PartTime) (s : State) : Host.Outcome State Fault Refusal :=
  .next (executeRequest .viewForceRelease t releaseEffect s)

/-- EVENT_TAKE (R180). -/
def execEventTake (t : PartTime) (s : State) : Host.Outcome State Fault Refusal :=
  .next (executeRequest .eventTake t eventTakeEffect s)

/-- FORMAT (R56). -/
def execFormat (t : PartTime) (s : State) : Host.Outcome State Fault Refusal :=
  .next (executeRequest .format t formatEffect s)

/-- RUN (R67). -/
def execRun (t : PartTime) (s : State) : Host.Outcome State Fault Refusal :=
  .next (executeRequest .run t runEffect s)

/-- RESTART (R172). -/
def execRestart (t : PartTime) (s : State) : Host.Outcome State Fault Refusal :=
  .next (executeRequest .restart t restartEffect s)

end Sys2Proof.Machine
end

