-- ==== Sys2Proof/Machine/Dispatch.lean ====
section
/-!
DEFINITION. One arm for each command, one direct call of its meaning.
-/
namespace Sys2Proof.Machine

/-- The effect of a command on everything but the queue of commands that wait. -/
def exec (i : Instr) (s : State) : Host.Outcome State Fault Refusal :=
  match i with
  | .powerOn => Sys2Proof.Machine.execPowerOn s
  | .frameOpen t c number => Sys2Proof.Machine.execFrameOpen t c number s
  | .line t c n samples good => Sys2Proof.Machine.execLine t c n samples good s
  | .frameClose t c claimed => Sys2Proof.Machine.execFrameClose t c claimed s
  | .linkDown t c => Sys2Proof.Machine.execLinkDown t c s
  | .linkUp t c => Sys2Proof.Machine.execLinkUp t c s
  | .lossTimerExpiry t c => Sys2Proof.Machine.execLossTimerExpiry t c s
  | .lockEventFormat t => Sys2Proof.Machine.execLockEventFormat t s
  | .lockEventRelock t => Sys2Proof.Machine.execLockEventRelock t s
  | .formatLockExpiry t => Sys2Proof.Machine.execFormatLockExpiry t s
  | .relockExpiry t => Sys2Proof.Machine.execRelockExpiry t s
  | .unlockEvent t => Sys2Proof.Machine.execUnlockEvent t s
  | .holdTimerExpiry t z => Sys2Proof.Machine.execHoldTimerExpiry t z s
  | .outputFrameStart t => Sys2Proof.Machine.execOutputFrameStart t s
  | .frameDone t => Sys2Proof.Machine.execFrameDone t s
  | .blanking t => Sys2Proof.Machine.execBlanking t s
  | .requestArrival t m => Sys2Proof.Machine.execRequestArrival t m s
  | .signalMessage t m => Sys2Proof.Machine.execSignalMessage t m s
  | .undefinedRequest t => Sys2Proof.Machine.execUndefinedRequest t s
  | .statusRead t => Sys2Proof.Machine.execStatusRead t s
  | .tableWriteCameraRecord t => Sys2Proof.Machine.execTableWriteCameraRecord t s
  | .tableWriteViewHeader t => Sys2Proof.Machine.execTableWriteViewHeader t s
  | .tableWriteTile t => Sys2Proof.Machine.execTableWriteTile t s
  | .tableWriteOverlayElement t => Sys2Proof.Machine.execTableWriteOverlayElement t s
  | .tableWritePaletteEntry t => Sys2Proof.Machine.execTableWritePaletteEntry t s
  | .tableWriteSpriteChunk t => Sys2Proof.Machine.execTableWriteSpriteChunk t s
  | .tableWritePathBand t => Sys2Proof.Machine.execTableWritePathBand t s
  | .tableWriteRule t => Sys2Proof.Machine.execTableWriteRule t s
  | .tableWriteSelectionSettings t => Sys2Proof.Machine.execTableWriteSelectionSettings t s
  | .tableWriteZoneRecord t => Sys2Proof.Machine.execTableWriteZoneRecord t s
  | .tableWriteSignalTimeouts t => Sys2Proof.Machine.execTableWriteSignalTimeouts t s
  | .tableWriteCounters t => Sys2Proof.Machine.execTableWriteCounters t s
  | .tableReadCameraRecord t => Sys2Proof.Machine.execTableReadCameraRecord t s
  | .tableReadViewHeader t => Sys2Proof.Machine.execTableReadViewHeader t s
  | .tableReadTile t => Sys2Proof.Machine.execTableReadTile t s
  | .tableReadOverlayElement t => Sys2Proof.Machine.execTableReadOverlayElement t s
  | .tableReadPaletteEntry t => Sys2Proof.Machine.execTableReadPaletteEntry t s
  | .tableReadSpriteChunk t => Sys2Proof.Machine.execTableReadSpriteChunk t s
  | .tableReadPathBand t => Sys2Proof.Machine.execTableReadPathBand t s
  | .tableReadRule t => Sys2Proof.Machine.execTableReadRule t s
  | .tableReadSelectionSettings t => Sys2Proof.Machine.execTableReadSelectionSettings t s
  | .tableReadZoneRecord t => Sys2Proof.Machine.execTableReadZoneRecord t s
  | .tableReadSignalTimeouts t => Sys2Proof.Machine.execTableReadSignalTimeouts t s
  | .tableReadCounters t => Sys2Proof.Machine.execTableReadCounters t s
  | .viewOpenFresh t => Sys2Proof.Machine.execViewOpenFresh t s
  | .viewOpenEdit t => Sys2Proof.Machine.execViewOpenEdit t s
  | .viewClose t => Sys2Proof.Machine.execViewClose t s
  | .viewWithdraw t => Sys2Proof.Machine.execViewWithdraw t s
  | .viewRestore t => Sys2Proof.Machine.execViewRestore t s
  | .overlaySwap t => Sys2Proof.Machine.execOverlaySwap t s
  | .cameraEnable t => Sys2Proof.Machine.execCameraEnable t s
  | .cameraDisable t => Sys2Proof.Machine.execCameraDisable t s
  | .cameraRestart t => Sys2Proof.Machine.execCameraRestart t s
  | .viewForce t => Sys2Proof.Machine.execViewForce t s
  | .viewForceRelease t => Sys2Proof.Machine.execViewForceRelease t s
  | .eventTake t => Sys2Proof.Machine.execEventTake t s
  | .format t => Sys2Proof.Machine.execFormat t s
  | .run t => Sys2Proof.Machine.execRun t s
  | .restart t => Sys2Proof.Machine.execRestart t s

end Sys2Proof.Machine
end

