-- ==== Sys2Proof/Machine/Step.lean ====
section
/-!
DEFINITION. One step of the part: the command at the front of the queue, taken off it and executed. Commands are taken whole and
one at a time (95_what_each_step_holds.md). The K2 fetches no instruction: `withFetchWord` is the host's question about a word.
-/
namespace Sys2Proof.Machine

/-- The state with the queue of waiting commands replaced. -/
def State.setPending (s : State) (l : List Instr) : State := { s with pending := l }

/-- One step: exec of the command at the front on the state that holds the queue's rest; with none waiting the part idles
(notes/assumptions/2.md). -/
def step (s : State) : Host.Outcome State Fault Refusal :=
  match s.pending with
  | [] => .next s
  | c :: rest => exec c (s.setPending rest)

/-- The state with the command a table word spells at the front of its queue; no word spells one. -/
def State.withFetchWord (s : State) (nbits w : Nat) : State :=
  match Sys2Proof.decodeTableWord nbits w with
  | none => s
  | some c => s.setPending (c :: s.pending)

end Sys2Proof.Machine
end

