-- ==== Sys2Proof/Safety.lean ====
section
/-!
DEFINITION. What the spec says is true of the part at every moment, as predicates of a state: the invariants that claims are
stated in terms of, and the shapes of state in which a request is executed and answered.
-/
namespace Sys2Proof.Machine

/-! ## A request waiting and answered -/

/-- Message `m` is at the head of the request queue, `rest` behind it, and the executor may take it: it is IDLE and the reply
queue has room (R170). -/
structure State.Awaits (s : State) (m : Message) (rest : List Message) : Prop where
  idle : s.mgmt.executor = .idle
  head : s.mgmt.requests = m :: rest
  room : s.mgmt.replies.length < 16

/-- A request as R183 lays it out, its length the number of its payload bytes. -/
def request (kind tag target sub : Byte) (index : BitVec 16) (payload : List Byte) : Message :=
  ⟨1, kind, tag, byteOf payload.length, target, sub, index, payload⟩

/-- The state at part time `t` with the head of the request queue taken. -/
def State.taken (s : State) (t : PartTime) (rest : List Message) : State :=
  { s with partTime := t, mgmt := { s.mgmt with requests := rest } }

/-- The state with one more reply in the reply queue: the tag, kind and target byte of the request, a result and a payload. -/
def State.answered (s : State) (tag kind target : Byte) (r : Result) (payload : List Byte) : State :=
  { s with mgmt := { s.mgmt with replies := s.mgmt.replies ++ [⟨tag, kind, target, r, payload⟩] } }

/-- The state with one event latch set (R178). -/
def State.latched (s : State) (k : Latch) : State :=
  { s with mgmt := { s.mgmt with latches := s.mgmt.latches ||| BitVec.twoPow 43 k.number } }

/-- Between `s` and `s'` the causes `ks` are raised and no latch is cleared: a latch is set afterwards exactly when it was set before
or stands for one of the causes (R178). -/
def State.Raised (s : State) (ks : List Latch) (s' : State) : Prop :=
  ∀ n, n < 43 → (member s'.mgmt.latches n = true ↔ member s.mgmt.latches n = true ∨ ∃ k ∈ ks, k.number = n)

/-- The command that executes a row's requests at a part time. -/
def RequestRow.command (t : PartTime) : RequestRow → Instr
  | .undefinedRequest => .undefinedRequest t
  | .statusRead => .statusRead t
  | .tableWriteCameraRecord => .tableWriteCameraRecord t
  | .tableWriteViewHeader => .tableWriteViewHeader t
  | .tableWriteTile => .tableWriteTile t
  | .tableWriteOverlayElement => .tableWriteOverlayElement t
  | .tableWritePaletteEntry => .tableWritePaletteEntry t
  | .tableWriteSpriteChunk => .tableWriteSpriteChunk t
  | .tableWritePathBand => .tableWritePathBand t
  | .tableWriteRule => .tableWriteRule t
  | .tableWriteSelectionSettings => .tableWriteSelectionSettings t
  | .tableWriteZoneRecord => .tableWriteZoneRecord t
  | .tableWriteSignalTimeouts => .tableWriteSignalTimeouts t
  | .tableWriteCounters => .tableWriteCounters t
  | .tableReadCameraRecord => .tableReadCameraRecord t
  | .tableReadViewHeader => .tableReadViewHeader t
  | .tableReadTile => .tableReadTile t
  | .tableReadOverlayElement => .tableReadOverlayElement t
  | .tableReadPaletteEntry => .tableReadPaletteEntry t
  | .tableReadSpriteChunk => .tableReadSpriteChunk t
  | .tableReadPathBand => .tableReadPathBand t
  | .tableReadRule => .tableReadRule t
  | .tableReadSelectionSettings => .tableReadSelectionSettings t
  | .tableReadZoneRecord => .tableReadZoneRecord t
  | .tableReadSignalTimeouts => .tableReadSignalTimeouts t
  | .tableReadCounters => .tableReadCounters t
  | .viewOpenFresh => .viewOpenFresh t
  | .viewOpenEdit => .viewOpenEdit t
  | .viewClose => .viewClose t
  | .viewWithdraw => .viewWithdraw t
  | .viewRestore => .viewRestore t
  | .overlaySwap => .overlaySwap t
  | .cameraEnable => .cameraEnable t
  | .cameraDisable => .cameraDisable t
  | .cameraRestart => .cameraRestart t
  | .viewForce => .viewForce t
  | .viewForceRelease => .viewForceRelease t
  | .eventTake => .eventTake t
  | .format => .format t
  | .run => .run t
  | .restart => .restart t

/-! ## What an event of one camera leaves alone (chapters 1 and 2) -/

/-- The camera a slot belongs to (R30). -/
def Slot.owner : Slot → Option Camera
  | .free => none
  | .filling c => some c
  | .ready c _ _ => some c
  | .held c _ _ => some c

/-- Between `s` and `s'` nothing has changed but part time, camera `c`'s channel (its record kept), the slots, its ready list, the
pixels and the latches. -/
structure State.OnlyCamera (c : Camera) (s s' : State) : Prop where
  pending : s'.pending = s.pending
  record : (s'.channel c).record = (s.channel c).record
  channels : ∀ d, d ≠ c → s'.channel d = s.channel d
  ready : ∀ d, d ≠ c → s'.pool.ready.get d = s.pool.ready.get d
  snapshot : s'.pool.snapshot = s.pool.snapshot
  views : s'.views = s.views
  selector : s'.selector = s.selector
  compositor : s'.compositor = s.compositor
  overlay : s'.overlay = s.overlay
  monitor : s'.monitor = s.monitor
  output : s'.output = s.output
  mgmt : { s'.mgmt with latches := s.mgmt.latches } = s.mgmt
  port : s'.port = s.port

/-- What camera `c`'s leaving service makes of the pool (R23 steps 1 to 3, R37, R38). -/
structure Pool.Left (c : Camera) (p p' : Pool) : Prop where
  filling : ∀ k, p.slot k = .filling c → p'.slot k = .free
  ready : ∀ k f a, p.slot k = .ready c f a → p'.slot k = .free
  held : ∀ k f o, p.slot k = .held c f o → p'.slot k = .held c f true
  others : ∀ k, (p.slot k).owner ≠ some c → p'.slot k = p.slot k
  list : p'.ready.get c = []
  lists : ∀ d, d ≠ c → p'.ready.get d = p.ready.get d
  pixels : p'.pixels = p.pixels
  snapshot : p'.snapshot = p.snapshot

/-- What the settling of every held slot makes of the pool (R44): each goes FREE, or is retained as the only entry of its camera's
ready list. -/
structure Pool.Settled (p p' : Pool) : Prop where
  freed : ∀ k c f o, p.slot k = .held c f o → (o = true ∨ p.ready.get c ≠ []) → p'.slot k = .free
  retained : ∀ k c f, p.slot k = .held c f false → p.ready.get c = [] →
    p'.slot k = .ready c f false ∧ p'.ready.get c = [k]
  others : ∀ k, (∀ c f o, p.slot k ≠ .held c f o) → p'.slot k = p.slot k
  lists : ∀ c, (∀ k f, p.slot k = .held c f false → p.ready.get c ≠ []) → p'.ready.get c = p.ready.get c
  pixels : p'.pixels = p.pixels
  snapshot : p'.snapshot = p.snapshot

/-- No camera holds two slots (R41). -/
def Pool.HoldsOneEach (p : Pool) : Prop :=
  ∀ j k c f g a b, p.slot j = .held c f a → p.slot k = .held c g b → j = k

/-- Camera `c` is usable at part time `t` with frame `f` in slot `k` (R40): its channel is LIVE, or DEGRADED with CADENCE alone, and
the newest entry of its ready list is not AGED, would not be marked AGED now (R39), and is within the stale limit. -/
structure State.Usable (s : State) (t : PartTime) (c : Camera) (k : SlotNo) (f : FrameRecord) : Prop where
  serves : (s.channel c).state = .live ∨ (s.channel c).state = .degraded ∧ (s.channel c).reasons = ⟨true, false⟩
  newest : (s.pool.ready.get c).getLast? = some k
  fresh : s.pool.slot k = .ready c f false
  young : (t - f.completedAt).toNat ≤ 5000000
  stale : (t - f.completedAt).toNat ≤ (s.channel c).record.staleLimit * 1000

/-! ## Channels (chapter 1) -/

/-- A channel's state, reason set, loss timer, filling frame and adopted class agree (R14, R15, R18, R19, R20, R23). -/
structure Channel.Agrees (ch : Channel) : Prop where
  reasons : ch.reasons ≠ .none ↔ ch.state = .degraded
  timer : ch.lossTimer.isSome = ch.ingests
  filling : ch.filling.isSome = true → ch.ingests = true
  lost : ch.state = .lost → ch.cadence = .cleared
  acquiring : ch.state = .acquiring → ch.cadence.adopted = none
  service : ch.inUse = true → (ch.cadence.adopted = none ↔ ch.reasons.cadence = true)

/-- Every channel agrees with itself. -/
def State.ChannelsAgree (s : State) : Prop := ∀ c, (s.channel c).Agrees

/-! ## Operating state, clock, views and zones (chapters 3, 4, 6, 7, 8) -/

/-- The clock, the executor and the frame in progress agree (R50, R57, R58, R59, R60, R61). -/
structure State.ClockAgrees (s : State) : Prop where
  target : ∀ k f t0, s.output.clock = .settling k f t0 → f = s.output.format ∧ f ≠ 0 ∧ s.output.phase = .none
  config : ∀ f t0, s.output.clock = .settling .format f t0 → s.output.opState = .config
  executor : (∃ m, s.mgmt.executor = .attempt m) ↔ ∃ f t0, s.output.clock = .settling .format f t0

/-- The views, the selector, the overlay engine, the zones and the compositor agree with the operating state. -/
structure State.RunAgrees (s : State) : Prop where
  forced : ∀ v, s.selector.forced = some v → (s.view v).state = .valid
  default : s.output.opState = .run → (s.view s.selector.defaultView).state = .valid
  grids : s.output.opState = .run → ∀ v, (s.view v).state = .valid → (s.view v).fitsGrid s.output.format = true
  inUse : ∀ v, s.selector.current = some v → (s.view v).state = .valid ∨ (s.view v).state = .withdrawn
  config : s.output.opState = .config → s.selector.current = none
  swap : s.overlay.swapPending = true → s.output.opState = .run
  zones : ∀ z, (s.monitor.zone z).state ≠ .disarmed →
    (s.monitor.zone z).record.active s.isRun s.selector.current = true
  composing : ∀ v p m r, s.compositor = .composing v p m r →
    s.output.opState = .run ∧ s.selector.current = some v ∧ s.output.phase = .active

/-- The two together, which every step keeps. -/
structure State.Coherent (s : State) : Prop where
  clock : s.ClockAgrees
  run : s.RunAgrees

/-! ## Queues (chapter 9) -/

/-- The request queue and the reply queue are within their 16 entries, with room for the reply of a FORMAT attempt (R60, R169). -/
structure State.QueuesBounded (s : State) : Prop where
  requests : s.mgmt.requests.length ≤ 16
  replies : s.mgmt.replies.length ≤ 16
  attempt : ∀ m, s.mgmt.executor = .attempt m → s.mgmt.replies.length ≤ 15

/-! ## Slots (chapter 2) -/

/-- The pool and the channels agree: what each slot is, who owns it, and what the ready lists and filling frames name. -/
structure State.SlotsAgree (s : State) : Prop where
  /-- An owned slot is one its owner's record lists (R30). -/
  owned : ∀ k c, (s.pool.slot k).owner = some c → k ∈ (s.channel c).record.slotList
  /-- No slot is in two cameras' slot lists (R3, R32). -/
  disjoint : ∀ c d k, k ∈ (s.channel c).record.slotList → k ∈ (s.channel d).record.slotList → c = d
  /-- A slot is FILLING for a camera exactly when it is the slot of that camera's filling frame (R5). -/
  filling : ∀ k c, s.pool.slot k = .filling c ↔ ∃ f, (s.channel c).filling = some f ∧ f.slot = k
  /-- A ready list names its camera's READY slots (R31). -/
  ready : ∀ k c, k ∈ s.pool.ready.get c ↔ ∃ frame aged, s.pool.slot k = .ready c frame aged
  /-- Each of them once (R31). -/
  once : ∀ c, (s.pool.ready.get c).Nodup
  /-- At most one slot of a camera is HELD (R35, R41). -/
  held : ∀ j k c f g a b, s.pool.slot j = .held c f a → s.pool.slot k = .held c g b → j = k
  /-- A slot is HELD only while a RUN frame is composed (R41). -/
  composed : ∀ k c f o, s.pool.slot k = .held c f o → ∃ v p m r, s.compositor = .composing v p m r
  /-- A HELD slot that is not marked orphaned belongs to a channel in service (R23 step 3, R38). -/
  orphaned : ∀ k c f, s.pool.slot k = .held c f false → (s.channel c).ingests = true
  /-- A channel out of service has no READY slot (R23). -/
  service : ∀ c, (s.channel c).ingests = false → s.pool.ready.get c = [] ∧ (s.channel c).filling = none

/-! ## Stored values (chapters 1, 4, 6, 7, 8) -/

/-- A camera record within the ranges of R2. -/
structure CameraRecord.InRange (r : CameraRecord) : Prop where
  width : 64 ≤ r.width ∧ r.width ≤ 1920 ∧ r.width % 2 = 0
  height : 64 ≤ r.height ∧ r.height ≤ 1080
  stale : 20 ≤ r.staleLimit ∧ r.staleLimit ≤ 500
  loss : 50 ≤ r.lossLimit ∧ r.lossLimit ≤ 2000
  freeze : r.freezeCount = 0 ∨ 2 ≤ r.freezeCount ∧ r.freezeCount ≤ 15
  gain : r.gain ≤ 1023
  offset : -256 ≤ r.offset ∧ r.offset ≤ 255
  slots : 1 ≤ r.slotList.length ∧ r.slotList.length ≤ 4 ∧ r.slotList.Nodup

/-- A view header within the ranges of R72; its colours are in range by their width. -/
structure ViewHeader.InRange (h : ViewHeader) : Prop where
  columns : 1 ≤ h.columns ∧ h.columns ≤ 40
  rows : 1 ≤ h.rows ∧ h.rows ≤ 25

/-- Four coordinates within the range of R73. -/
def Corners.CoordsInRange (c : Corners Coord) : Prop :=
  (c.c00.u ≤ 32767 ∧ c.c00.v ≤ 32767) ∧ (c.c10.u ≤ 32767 ∧ c.c10.v ≤ 32767) ∧ (c.c01.u ≤ 32767 ∧ c.c01.v ≤ 32767) ∧
    (c.c11.u ≤ 32767 ∧ c.c11.v ≤ 32767)

/-- A tile record within the ranges of R73. -/
structure TileRecord.InRange (r : TileRecord) : Prop where
  primary : r.primaryCorners.CoordsInRange
  secondary : r.secondaryCorners.CoordsInRange
  weights : r.weights.c00 ≤ 256 ∧ r.weights.c10 ≤ 256 ∧ r.weights.c01 ≤ 256 ∧ r.weights.c11 ≤ 256

/-- An element within the ranges of R136. -/
structure Element.InRange (e : Element) : Prop where
  place : -1024 ≤ e.x ∧ e.x ≤ 2047 ∧ -1024 ≤ e.y ∧ e.y ≤ 2047
  size : e.w ≤ 2047 ∧ e.h ≤ 2047
  thickness : 1 ≤ e.thickness ∧ e.thickness ≤ 16
  sprite : e.spriteOffset ≤ 16383 ∧ 1 ≤ e.spriteWidth ∧ e.spriteWidth ≤ 256 ∧ 1 ≤ e.spriteHeight ∧ e.spriteHeight ≤ 256

/-- A span within the ranges of R135. -/
structure Span.InRange (x : Span) : Prop where
  start : -1024 ≤ x.startRow ∧ x.startRow ≤ 2047
  count : x.rowCount ≤ 1024
  left : -1024 ≤ x.leftX ∧ x.leftX ≤ 2047
  right : -1024 ≤ x.rightX ∧ x.rightX ≤ 2047

/-- A bank within the ranges of R133, R135 and R136. -/
structure Bank.InRange (x : Bank) : Prop where
  elements : ∀ i, (x.element i).InRange
  palette : ∀ i, (x.paletteEntry i).alpha ≤ 16
  bands : ∀ i, (x.band i).length ≤ 7 ∧ ∀ sp ∈ x.band i, sp.InRange

/-- A rule within the ranges of R119. -/
structure Rule.InRange (r : Rule) : Prop where
  speed : ∀ low high, r.speed = .range low high → low ≤ 1500 ∧ high ≤ 1500
  steer : ∀ low high, r.steer = .range low high → (-450 ≤ low ∧ low ≤ 450) ∧ -450 ≤ high ∧ high ≤ 450

/-- A zone record within the ranges of R153. -/
structure ZoneRecord.InRange (r : ZoneRecord) : Prop where
  columns : r.tx0 ≤ 39 ∧ r.tx1 ≤ 39
  rows : r.ty0 ≤ 24 ∧ r.ty1 ≤ 24
  threshold : r.threshold ≤ 1023
  trigger : 1 ≤ r.trigger ∧ r.trigger ≤ 255
  confirm : 1 ≤ r.confirm ∧ r.confirm ≤ 15
  hold : r.holdTime ≤ 5000
  shift : 1 ≤ r.learnShift ∧ r.learnShift ≤ 8

/-- A signal timeout within the range of R118. -/
def TimeoutInRange (ms : Nat) : Prop := 100 ≤ ms ∧ ms ≤ 2000

/-- The selector's settings, timeouts, rules and stored signal values within their ranges (R115, R118, R119, R126). -/
structure Selector.InRange (x : Selector) : Prop where
  rules : ∀ i, (x.rule i).InRange
  dwell : x.dwell ≤ 2000
  timeouts : TimeoutInRange x.timeouts.steer ∧ TimeoutInRange x.timeouts.speed ∧ TimeoutInRange x.timeouts.gear ∧
    TimeoutInRange x.timeouts.indicator ∧ TimeoutInRange x.timeouts.body
  steer : -450 ≤ x.signals.steer.value ∧ x.signals.steer.value ≤ 450
  speed : x.signals.speed.value ≤ 1500

/-- Every record the host can write is within its ranges. -/
structure State.RecordsInRange (s : State) : Prop where
  cameras : ∀ c, (s.channel c).record.InRange
  headers : ∀ v, (s.view v).header.InRange
  tiles : ∀ v i, (Table.read TileRecord.cleared (s.view v).tiles i).InRange
  bankA : s.overlay.bankA.InRange
  bankB : s.overlay.bankB.InRange
  selector : s.selector.InRange
  zones : ∀ z, (s.monitor.zone z).record.InRange

/-! ## Canonical tables -/

/-- The tables of a view are canonical. -/
def View.canonical (x : View) : Bool := Table.wf false 1024 x.written && Table.wf TileRecord.cleared 1024 x.tiles

/-- The tables of a bank are canonical; the sprite area is the memory of the block. -/
def Bank.canonical (x : Bank) : Bool :=
  Table.wf Element.cleared 64 x.elements && Table.wf PaletteEntry.cleared 16 x.palette && Table.wf (0 : Byte) 16384 x.sprites
    && Table.wf ([] : List Span) 31 x.bands

/-- Every table of the state but the DRAM is canonical, so that equal contents are equal data. -/
def State.canonical (s : State) : Bool :=
  Table.wf Slot.free 16 s.pool.slots && Table.wf View.initial 8 s.views && s.views.all (fun e => e.2.canonical)
    && Table.wf Rule.cleared 16 s.selector.rules && s.overlay.bankA.canonical && s.overlay.bankB.canonical
    && Table.wf Zone.initial 8 s.monitor.zones && Table.wf Background.initial 1024 s.monitor.backgrounds

/-- The DRAM is canonical: 16 slots of 1080 lines (R29). -/
def Pool.canonical (p : Pool) : Bool := Table.wf ([] : List Pixel) 17280 p.pixels

end Sys2Proof.Machine
end

