-- ==== Sys2Proof/WellFormed.lean ====
section
/-!
DEFINITION. Which commands the link can deliver: the widths of every other operand are in its type, so what is left to check
is the class of a control message and that its header's length is the number of its payload bytes (R167, R183).
-/
namespace Sys2Proof

/-- The header's length gives the number of payload bytes (R167). -/
def Message.lengthAgrees (m : Message) : Bool := m.payload.length == m.length.toNat

/-- The class byte of a signal message (R183). -/
def Message.isSignal (m : Message) : Bool := m.cls == 2

/-- A command as the part can receive it (R167): requests are not of class SIGNAL, signal messages are, and both are whole. -/
def Instr.wellFormed : Instr → Bool
  | .requestArrival _ m => !m.isSignal && m.lengthAgrees
  | .signalMessage _ m => m.isSignal && m.lengthAgrees
  | _ => true

end Sys2Proof
end

