-- ==== Sys2Proof/Certificates/Slice0/Obligations.lean ====
section
/-!
DEFINITION. The statements for the provers. Each docstring names the rules of spec/ that the statement rests on, and the log entry
where it rests on a choice of the model.
-/
open Sys2Proof Sys2Proof.Machine

/-! ## The machine -/

/-- A step is exec of the command at the front on the state that holds the queue's rest; with none waiting the part idles, which is
the model's choice (notes/assumptions/2.md). -/
def Obligations.StepExecutesTheFrontCommand : Prop :=
  (∀ (c : Instr) (rest : List Instr) (s : State), s.pending = c :: rest → step s = exec c { s with pending := rest }) ∧
  ∀ s : State, s.pending = [] → step s = .next s

/-- Every command has an effect in every state: exec always answers a next state, and leaves the queue of commands as it is. That no
command stops in any state is the model's reading (DEDUCED, notes/assumptions/17.md), and that POWER_ON leaves the queue of commands is
the model's choice (DESIGN CHOICE, notes/assumptions/16.md). -/
def Obligations.EveryCommandHasANextState : Prop :=
  ∀ (i : Instr) (s : State), ∃ s', exec i s = .next s' ∧ s'.pending = s.pending

/-- POWER_ON puts every block in its initial state (R28, R47, R70, R89, R91, R131, R151, R166, R182); the pixels of the DRAM stay,
and the first output frame start raises the counter to 1. That no frame is in progress, the frame kind CONFIG, the start 0 and the place
0 of the group of three are the model's choice (DESIGN CHOICE, notes/assumptions/18.md), as are part time 0 and the queue of commands
(DESIGN CHOICE, notes/assumptions/16.md). -/
def Obligations.PowerOnEntersTheInitialState : Prop :=
  ∀ s : State, ∃ s', exec .powerOn s = .next s' ∧
    s'.output = ⟨0, .locked, 0, .none, .config, 0, 0, .config, 0, .power⟩ ∧ s'.partTime = 0 ∧
    (∀ c, s'.channel c = ⟨.initial c, .off, .none, none, .cleared, .cleared, none, 0, .zero, .zero⟩) ∧
    (∀ k, s'.pool.slot k = .free) ∧ (∀ c, s'.pool.ready.get c = [] ∧ s'.pool.snapshot.get c = none) ∧
    s'.pool.pixels = s.pool.pixels ∧
    (∀ v, s'.view v = ⟨.empty, .cleared, false, [], []⟩) ∧
    s'.selector = ⟨.cleared, ⟨300, 300, 1000, 1000, 1000⟩, none, [], 0, 300, none, none, none⟩ ∧
    s'.compositor = .idle ∧ s'.overlay = ⟨⟨[], [], [], []⟩, ⟨[], [], [], []⟩, .a, false, [], false⟩ ∧
    (∀ z, s'.monitor.zone z = ⟨.initial, .disarmed, 0⟩) ∧ (∀ i, s'.monitor.background i = ⟨0, true⟩) ∧
    s'.mgmt = ⟨[], .idle, [], 0, 0, 0⟩ ∧
    ∀ t, ∃ s'', exec (.outputFrameStart t) s' = .next s'' ∧ s''.output.frameCounter = 1

/-! ## Ingest and the slot pool -/

/-- A channel in OFF or HALTED ignores every mark, one in LOST every mark but FRAME_OPEN, a LINE or FRAME_CLOSE finds no filling
frame, and LINK_UP changes no state (R1, R10, R21). -/
def Obligations.MarksOutOfServiceAreIgnored : Prop :=
  ∀ (s : State) (t : PartTime) (c : Camera),
    ((s.channel c).state = .off ∨ (s.channel c).state = .halted →
      ∀ number, exec (.frameOpen t c number) s = .next { s with partTime := t }) ∧
    ((s.channel c).state = .off ∨ (s.channel c).state = .halted ∨ (s.channel c).state = .lost →
      exec (.linkDown t c) s = .next { s with partTime := t }) ∧
    ((s.channel c).state = .off ∨ (s.channel c).state = .halted ∨ (s.channel c).state = .lost ∨ (s.channel c).filling = none →
      (∀ n px good, exec (.line t c n px good) s = .next { s with partTime := t }) ∧
      ∀ claimed, exec (.frameClose t c claimed) s = .next { s with partTime := t }) ∧
    exec (.linkUp t c) s = .next { s with partTime := t }

/-- A FRAME_OPEN of a channel in service with no filling frame takes the cadence step with its causes, restarts the loss timer and takes
the lowest-numbered FREE slot of the slot list, else the oldest READY slot, else skips the frame (R5, R14 to R16, R20, R33, R34, R35).
What the cadence step does is CadenceStepFollowsTheClasses. -/
def Obligations.FrameOpenAllocatesByTheOrder : Prop :=
  ∀ (s : State) (t : PartTime) (c : Camera) (number : BitVec 16),
    (s.channel c).ingests = true → (s.channel c).filling = none →
    let stepped := (s.channel c).cadenceStep c t
    ∃ s', exec (.frameOpen t c number) s = .next s' ∧ s'.partTime = t ∧ s.OnlyCamera c s' ∧
      s'.channel c = { stepped.1 with
        lossTimer := some t, filling := (s'.channel c).filling, counters := (s'.channel c).counters } ∧
      s'.pool.pixels = s.pool.pixels ∧ (s'.channel c).lossTimer = some t ∧ (s'.channel c).cadence.lastOpen = some t ∧
      (s'.channel c).lastFrame = (s.channel c).lastFrame ∧ (s'.channel c).sequence = (s.channel c).sequence ∧
      (s'.channel c).freeze = (s.channel c).freeze ∧
      ((∃ k ∈ (s.channel c).record.slotList, s.pool.slot k = .free ∧
          (∀ j ∈ (s.channel c).record.slotList, s.pool.slot j = .free → k ≤ j) ∧
          (s'.channel c).filling = some ⟨k, number, 0, none, 0, 0, 0⟩ ∧ s'.pool.slot k = .filling c ∧
          (∀ j, j ≠ k → s'.pool.slot j = s.pool.slot j) ∧ s'.pool.ready = s.pool.ready ∧
          (s'.channel c).counters = (s.channel c).counters ∧ s.Raised stepped.2 s') ∨
        (∀ j ∈ (s.channel c).record.slotList, s.pool.slot j ≠ .free) ∧
          ((∃ k rest, s.pool.ready.get c = k :: rest ∧
              (s'.channel c).filling = some ⟨k, number, 0, none, 0, 0, 0⟩ ∧ s'.pool.slot k = .filling c ∧
              (∀ j, j ≠ k → s'.pool.slot j = s.pool.slot j) ∧ s'.pool.ready.get c = rest ∧
              (s'.channel c).counters =
                { (s.channel c).counters with overwritten := raise (s.channel c).counters.overwritten 1 } ∧
              s.Raised stepped.2 s') ∨
            s.pool.ready.get c = [] ∧ (s'.channel c).filling = none ∧ s'.pool = s.pool ∧
              (s'.channel c).counters = { (s.channel c).counters with skipped := raise (s.channel c).counters.skipped 1 } ∧
              s.Raised (stepped.2 ++ [.camSkipped c]) s'))

/-- A FRAME_OPEN taken in LOST, where the cadence tracker is reset, moves the channel to ACQUIRING with the freeze tracker cleared
and the loss timer started, and the frame is ingested in the lowest-numbered FREE slot, or skipped where no slot of the list is FREE (a
LOST channel has no READY slot, R23; R14, R22, R33, R35). -/
def Obligations.FrameOpenWakesALostCamera : Prop :=
  ∀ (s : State) (t : PartTime) (c : Camera) (number : BitVec 16),
    (s.channel c).state = .lost → (s.channel c).cadence = .cleared →
    let woken (filling : Option FillingFrame) (counters : Counters) : Channel := { s.channel c with
      state := .acquiring, freeze := ⟨none, 0⟩, cadence := ⟨some t, none, 0, none, 0⟩, lossTimer := some t,
      filling := filling, counters := counters }
    (∀ k ∈ (s.channel c).record.slotList, s.pool.slot k = .free →
      (∀ j ∈ (s.channel c).record.slotList, s.pool.slot j = .free → k ≤ j) →
      exec (.frameOpen t c number) s = .next
        (({ s with partTime := t }.setPool (s.pool.setSlot k (.filling c))).setChannel c
          (woken (some ⟨k, number, 0, none, 0, 0, 0⟩) (s.channel c).counters))) ∧
    ((∀ j ∈ (s.channel c).record.slotList, s.pool.slot j ≠ .free) → s.pool.ready.get c = [] →
      exec (.frameOpen t c number) s = .next
        (({ s with partTime := t }.setChannel c
          (woken none { (s.channel c).counters with skipped := raise (s.channel c).counters.skipped 1 })).latched
            (.camSkipped c)))

/-- A FRAME_OPEN that arrives while a frame is filling ends it with GAP, and SHORT where lines are missing. The frame halts the channel,
whose slots leave by R23; or it completes, its slot READY with the frame record and newest, the freeze check and the cadence step made
with their causes, and a new frame starts in the lowest FREE slot or else in the oldest READY one; or it is discarded with its slot
restarted at once (R5, R11, R12, R13, R14 to R17, R23, R33, R34, R36). What the two checks do is CadenceStepFollowsTheClasses and
FreezeCheckCountsEqualSignatures. -/
def Obligations.GapEndsTheFillingFrame : Prop :=
  ∀ (s : State) (t : PartTime) (c : Camera) (number : BitVec 16) (f : FillingFrame) (flags : FlagSet),
    (s.channel c).ingests = true → (s.channel c).filling = some f →
    flags = (f.flags ||| 0b100000#6) |||
      (if f.validLines < (s.channel c).record.height ∨ f.highest = none then 0b000001#6 else 0) →
    ∃ s', exec (.frameOpen t c number) s = .next s' ∧ s'.partTime = t ∧ s.OnlyCamera c s' ∧
      s'.pool.pixels = s.pool.pixels ∧
      (flags &&& (s.channel c).record.haltMask ≠ 0 →
        s'.channel c =
          { s.channel c with state := .halted, reasons := .none, filling := none, lossTimer := none } ∧
        s'.pool.slot f.slot = .free ∧ s'.pool.ready.get c = [] ∧ (s.pool.setSlot f.slot .free).Left c s'.pool ∧
        s'.mgmt.latches = s.mgmt.latches ||| BitVec.twoPow 43 (5 * c.val + 1)) ∧
      (flags &&& (s.channel c).record.haltMask = 0 →
        (s'.channel c).lossTimer = some t ∧ (s'.channel c).cadence.lastOpen = some t) ∧
      (flags &&& (s.channel c).record.haltMask = 0 →
        (flags &&& ~~~ (s.channel c).record.keepMask ≠ 0 ∨ f.highest = none) →
        let stepped := (s.channel c).cadenceStep c t
        s'.pool = s.pool ∧ s.Raised stepped.2 s' ∧
        s'.channel c = { stepped.1 with
          lossTimer := some t
          filling := some ⟨f.slot, number, 0, none, 0, 0, 0⟩
          counters := { (s.channel c).counters with discarded := raise (s.channel c).counters.discarded 1 } }) ∧
      (flags &&& (s.channel c).record.haltMask = 0 → flags &&& ~~~ (s.channel c).record.keepMask = 0 → f.highest ≠ none →
        let frame : FrameRecord := ⟨c, f.number, (s.channel c).sequence, t, f.validLines, flags, f.signature⟩
        let counters : Counters := { (s.channel c).counters with completed := raise (s.channel c).counters.completed 1 }
        let checked := Channel.freezeCheck c { s.channel c with
          filling := none, sequence := (s.channel c).sequence + 1, counters := counters, lastFrame := frame } f.signature
        let stepped := checked.1.cadenceStep c t
        let opened (k : SlotNo) (counters : Counters) : Channel := { stepped.1 with
          lossTimer := some t, filling := some ⟨k, number, 0, none, 0, 0, 0⟩, counters := counters }
        (s'.channel c).lastFrame = frame ∧ (s'.channel c).sequence = (s.channel c).sequence + 1 ∧
        s.Raised (checked.2 ++ stepped.2) s' ∧
        ((∃ k ∈ (s.channel c).record.slotList, k ≠ f.slot ∧ s.pool.slot k = .free ∧
            (∀ j ∈ (s.channel c).record.slotList, j ≠ f.slot → s.pool.slot j = .free → k ≤ j) ∧
            s'.channel c = opened k counters ∧ s'.pool.slot k = .filling c ∧ s'.pool.slot f.slot = .ready c frame false ∧
            (∀ j, j ≠ k → j ≠ f.slot → s'.pool.slot j = s.pool.slot j) ∧
            s'.pool.ready.get c = s.pool.ready.get c ++ [f.slot]) ∨
          (∀ j ∈ (s.channel c).record.slotList, j ≠ f.slot → s.pool.slot j ≠ .free) ∧
            ∃ k rest, s.pool.ready.get c ++ [f.slot] = k :: rest ∧
              s'.channel c = opened k { counters with overwritten := raise (s.channel c).counters.overwritten 1 } ∧
              s'.pool.slot k = .filling c ∧ (k ≠ f.slot → s'.pool.slot f.slot = .ready c frame false) ∧
              (∀ j, j ≠ k → j ≠ f.slot → s'.pool.slot j = s.pool.slot j) ∧ s'.pool.ready.get c = rest))

/-- A LINE mark raises the received count; a line at or beyond height joins LONG, one below the expected number joins ORDER, and the
expected line, whole and good, is written with its own samples and summed into the signature on every eighth line; chroma shared
by a pair fills both its pixels (R1, R6, R8, R9). -/
def Obligations.LineMarkIsWrittenOrDiscarded : Prop :=
  ∀ (s : State) (t : PartTime) (c : Camera) (n : BitVec 16) (f : FillingFrame) (px : List Pixel) (good : Bool),
    (s.channel c).ingests = true → (s.channel c).filling = some f →
    ((s.channel c).record.height ≤ n.toNat →
      exec (.line t c n (.perPixel px) good) s = .next ({ s with partTime := t }.setChannel c
        { s.channel c with filling := some { f with received := f.received + 1, flags := f.flags ||| 0b000010#6 } })) ∧
    (n.toNat < (s.channel c).record.height → n.toNat < f.expected →
      exec (.line t c n (.perPixel px) good) s = .next ({ s with partTime := t }.setChannel c
        { s.channel c with filling := some { f with received := f.received + 1, flags := f.flags ||| 0b001000#6 } })) ∧
    (n.toNat < (s.channel c).record.height → (s.channel c).record.height ≤ 1080 → n.toNat = f.expected → good = true →
      px.length = (s.channel c).record.width →
      ∃ s', exec (.line t c n (.perPixel px) good) s = .next s' ∧ s'.partTime = t ∧ s.OnlyCamera c s' ∧
        s'.mgmt = s.mgmt ∧ s'.pool.slots = s.pool.slots ∧ s'.pool.ready = s.pool.ready ∧
        s'.channel c = { s.channel c with filling := some { f with
          received := f.received + 1
          expected := n.toNat + 1
          highest := some n.toNat
          signature := if n.toNat % 8 = 0 then
              f.signature + BitVec.ofNat 16
                ((((List.range px.length).filter fun i => i % 8 = 0).map fun i => (px.getD i ⟨0, 0, 0⟩).y.toNat).sum)
            else f.signature } } ∧
        (∀ i, i < px.length → s'.pool.pixel f.slot i n.toNat = px.getD i ⟨0, 0, 0⟩) ∧
        ∀ k l i, l < 1080 → (k, l) ≠ (f.slot, n.toNat) → s'.pool.pixel k i l = s.pool.pixel k i l) ∧
    ∀ pairs : List PixelPair, exec (.line t c n (.sharedChroma pairs) good) s =
      exec (.line t c n (.perPixel (pairs.flatMap fun q => [⟨q.y0, q.cb, q.cr⟩, ⟨q.y1, q.cb, q.cr⟩])) good) s

/-- Lines missing before a written line are copies of the last line written, or 512 throughout where none is; a bad or ill-sized line
joins LINE_BAD and is written as a copy of the line above it, or 512 throughout for line 0; every line so written that is a multiple of
8 is summed into the signature as it then stands in the slot; nothing else changes (R6, R7, R8, R9). -/
def Obligations.MissingAndBadLinesAreConcealed : Prop :=
  ∀ (s : State) (t : PartTime) (c : Camera) (n : BitVec 16) (f : FillingFrame) (px : List Pixel) (good : Bool),
    (s.channel c).ingests = true → (s.channel c).filling = some f → n.toNat < (s.channel c).record.height →
    (s.channel c).record.height ≤ 1080 → f.expected ≤ n.toNat → (∀ h, f.highest = some h → h < f.expected) →
    ∃ s' g, exec (.line t c n (.perPixel px) good) s = .next s' ∧ (s'.channel c).filling = some g ∧
      s'.partTime = t ∧ s.OnlyCamera c s' ∧ s'.mgmt = s.mgmt ∧ s'.pool.slots = s.pool.slots ∧ s'.pool.ready = s.pool.ready ∧
      s'.channel c = { s.channel c with filling := some g } ∧
      g = { f with
        received := f.received + 1
        expected := n.toNat + 1
        highest := some n.toNat
        flags := g.flags
        signature := f.signature + BitVec.ofNat 16
          ((((List.range' f.expected (n.toNat + 1 - f.expected)).filter fun l => l % 8 = 0).map fun l =>
            (((List.range (s.channel c).record.width).filter fun i => i % 8 = 0).map fun i =>
              (s'.pool.pixel f.slot i l).y.toNat).sum).sum) } ∧
      (∀ l, f.expected ≤ l → l < n.toNat →
        s'.pool.readLine f.slot l (s.channel c).record.width =
          match f.highest with
          | none => List.replicate (s.channel c).record.width ⟨512, 512, 512⟩
          | some h => s.pool.readLine f.slot h (s.channel c).record.width) ∧
      (good = true → px.length = (s.channel c).record.width →
        g.flags = f.flags ∧ s'.pool.readLine f.slot n.toNat (s.channel c).record.width = px) ∧
      (good = false ∨ px.length ≠ (s.channel c).record.width →
        g.flags = f.flags ||| 0b000100#6 ∧
        s'.pool.readLine f.slot n.toNat (s.channel c).record.width =
          if n.toNat = 0 then List.replicate (s.channel c).record.width ⟨512, 512, 512⟩
          else s'.pool.readLine f.slot (n.toNat - 1) (s.channel c).record.width) ∧
      ∀ k l i, l < 1080 → (k ≠ f.slot ∨ l < f.expected ∨ n.toNat < l) → s'.pool.pixel k i l = s.pool.pixel k i l

/-- A FRAME_CLOSE ends the filling frame with SHORT and CLAIM tested; the frame halts the channel, whose slots leave by R23,
completes with its frame record and the freeze check with its causes, or is discarded; its counters hold at 65535 (R10, R11, R12,
R17, R23, R27, R36). What the freeze check does is FreezeCheckCountsEqualSignatures. -/
def Obligations.FrameCloseDecidesTheOutcome : Prop :=
  ∀ (s : State) (t : PartTime) (c : Camera) (claimed : BitVec 16) (f : FillingFrame) (flags : FlagSet),
    (s.channel c).ingests = true → (s.channel c).filling = some f →
    flags = (f.flags ||| (if f.validLines < (s.channel c).record.height ∨ f.highest = none then 0b000001#6 else 0)) |||
      (if claimed.toNat = f.received then 0 else 0b010000#6) →
    ∃ s', exec (.frameClose t c claimed) s = .next s' ∧ s'.partTime = t ∧ s.OnlyCamera c s' ∧
      s'.pool.pixels = s.pool.pixels ∧ (s'.channel c).filling = none ∧
      (flags &&& (s.channel c).record.haltMask ≠ 0 →
        s'.channel c =
          { s.channel c with state := .halted, reasons := .none, filling := none, lossTimer := none } ∧
        s'.pool.slot f.slot = .free ∧ s'.pool.ready.get c = [] ∧ (s.pool.setSlot f.slot .free).Left c s'.pool ∧
        s'.mgmt.latches = s.mgmt.latches ||| BitVec.twoPow 43 (5 * c.val + 1)) ∧
      (flags &&& (s.channel c).record.haltMask = 0 → flags &&& ~~~ (s.channel c).record.keepMask = 0 → f.highest ≠ none →
        ∃ frame : FrameRecord, frame = ⟨c, f.number, (s.channel c).sequence, t, f.validLines, flags, f.signature⟩ ∧
        (s'.channel c).lastFrame = frame ∧ s'.pool.slot f.slot = .ready c frame false ∧
        (∀ k, k ≠ f.slot → s'.pool.slot k = s.pool.slot k) ∧
        s'.pool.ready.get c = s.pool.ready.get c ++ [f.slot] ∧
        (s'.channel c).sequence = (s.channel c).sequence + 1 ∧
        (s'.channel c).counters = { (s.channel c).counters with completed := raise (s.channel c).counters.completed 1 } ∧
        (s'.channel c).counters.completed.toNat = min 65535 ((s.channel c).counters.completed.toNat + 1) ∧
        (let checked := Channel.freezeCheck c { s.channel c with
           filling := none
           sequence := (s.channel c).sequence + 1
           counters := { (s.channel c).counters with completed := raise (s.channel c).counters.completed 1 }
           lastFrame := frame } f.signature
         s'.channel c = checked.1 ∧ s.Raised checked.2 s')) ∧
      (flags &&& (s.channel c).record.haltMask = 0 →
        (flags &&& ~~~ (s.channel c).record.keepMask ≠ 0 ∨ f.highest = none) →
        s'.channel c = { s.channel c with
          filling := none
          counters := { (s.channel c).counters with discarded := raise (s.channel c).counters.discarded 1 } } ∧
        (s'.channel c).counters.discarded.toNat = min 65535 ((s.channel c).counters.discarded.toNat + 1) ∧
        s'.pool.slot f.slot = .free ∧ (∀ k, k ≠ f.slot → s'.pool.slot k = s.pool.slot k) ∧ s'.pool.ready = s.pool.ready ∧
        s'.mgmt = s.mgmt)

/-- A LINK_DOWN, or the expiry of the loss timer once its limit has passed, takes a channel in service to LOST: its slots leave by
R23, its trackers and timer stop as given there, and CAM_LOST is latched (R20, R21, R23, R37). That an expiry command before its
limit changes only part time is the model's reading (DEDUCED, notes/assumptions/3.md). -/
def Obligations.CameraLossLeavesService : Prop :=
  ∀ (s : State) (t : PartTime) (c : Camera), (s.channel c).ingests = true →
    (∃ p, s.pool.Left c p ∧ exec (.linkDown t c) s = .next
      ((({ s with partTime := t }.setPool p).setChannel c
        { s.channel c with
          state := .lost, reasons := .none, filling := none, lossTimer := none, cadence := ⟨none, none, 0, none, 0⟩ }).latched
        (.camLost c)) ∧
      ∀ t0, (s.channel c).lossTimer = some t0 → (s.channel c).record.lossLimit * 1000 ≤ (t - t0).toNat →
        exec (.lossTimerExpiry t c) s = exec (.linkDown t c) s) ∧
    ∀ t0, (s.channel c).lossTimer = some t0 → (t - t0).toNat < (s.channel c).record.lossLimit * 1000 →
      exec (.lossTimerExpiry t c) s = .next { s with partTime := t }

/-- CAMERA_CONTROL: ENABLE of an OFF channel, DISABLE and RESTART, with their refusals; a camera number above 3 is BAD_INDEX, and after
that test any other action is MALFORMED (R24, R25, R26, section 1.11). The command that executes a request of undefined action is the
one the model's reading names (DEDUCED, notes/assumptions/5.md). -/
def Obligations.CameraControlActsOnTheChannel : Prop :=
  ∀ (s : State) (t : PartTime) (c : Camera) (rest : List Message) (tag target sub : Byte) (index : BitVec 16),
    (s.Awaits (request 6 tag target sub index [byteOf c.val, 1]) rest →
      ((s.channel c).state = .off → exec (.cameraEnable t) s = .next (((s.taken t rest).setChannel c
        { s.channel c with
          state := .acquiring, cadence := ⟨none, none, 0, none, 0⟩, freeze := ⟨none, 0⟩, sequence := 0,
          lossTimer := some t }).answered tag 6 0 .ok [])) ∧
      ((s.channel c).state ≠ .off →
        exec (.cameraEnable t) s = .next ((s.taken t rest).answered tag 6 0 .badState []))) ∧
    (s.Awaits (request 6 tag target sub index [byteOf c.val, 2]) rest →
      ((s.channel c).state = .off → exec (.cameraDisable t) s = .next ((s.taken t rest).answered tag 6 0 .ok [])) ∧
      ((s.channel c).state ≠ .off → ∃ p, s.pool.Left c p ∧
        exec (.cameraDisable t) s = .next ((((s.taken t rest).setPool p).setChannel c
          { s.channel c with state := .off, reasons := .none, filling := none, lossTimer := none }).answered tag 6 0 .ok []))) ∧
    (s.Awaits (request 6 tag target sub index [byteOf c.val, 3]) rest →
      ((s.channel c).state = .off →
        exec (.cameraRestart t) s = .next ((s.taken t rest).answered tag 6 0 .badState [])) ∧
      ((s.channel c).state ≠ .off → ∃ p, s.pool.Left c p ∧
        exec (.cameraRestart t) s = .next ((((s.taken t rest).setPool p).setChannel c
          { s.channel c with
            state := .acquiring, reasons := .none, filling := none, lossTimer := some t, cadence := ⟨none, none, 0, none, 0⟩,
            freeze := ⟨none, 0⟩, sequence := 0, counters := ⟨0, 0, 0, 0, 0⟩ }).answered tag 6 0 .ok []))) ∧
    (∀ b : Byte, 3 < b.toNat →
      (s.Awaits (request 6 tag target sub index [b, 1]) rest →
        exec (.cameraEnable t) s = .next ((s.taken t rest).answered tag 6 0 .badIndex [])) ∧
      (s.Awaits (request 6 tag target sub index [b, 2]) rest →
        exec (.cameraDisable t) s = .next ((s.taken t rest).answered tag 6 0 .badIndex [])) ∧
      (s.Awaits (request 6 tag target sub index [b, 3]) rest →
        exec (.cameraRestart t) s = .next ((s.taken t rest).answered tag 6 0 .badIndex []))) ∧
    ∀ b action : Byte, action = 0 ∨ 3 < action.toNat → s.Awaits (request 6 tag target sub index [b, action]) rest →
      exec ((requestRow (request 6 tag target sub index [b, action])).command t) s =
        .next ((s.taken t rest).answered tag 6 0 (if 3 < b.toNat then .badIndex else .malformed) [])

/-- The cadence step: no interval at a first FRAME_OPEN; otherwise the run count counts intervals of one class, two intervals in a
row outside the adopted class drop it and join CADENCE, and a run of 4 of a class that qualifies adopts it; the classes have the bounds
of R14's table, and the expected class qualifies, or any class but OUT where ANY is expected (R14, R15, R16, R19). -/
def Obligations.CadenceStepFollowsTheClasses : Prop :=
  (∀ us : Nat,
    (intervalClass us = .c60 ↔ 15900 ≤ us ∧ us ≤ 17400) ∧ (intervalClass us = .c50 ↔ 19000 ≤ us ∧ us ≤ 21000) ∧
    (intervalClass us = .c30 ↔ 32000 ≤ us ∧ us ≤ 34700) ∧ (intervalClass us = .c25 ↔ 38500 ≤ us ∧ us ≤ 41500) ∧
    (intervalClass us = .out ↔ us < 15900 ∨ (17400 < us ∧ us < 19000) ∨ (21000 < us ∧ us < 32000) ∨
      (34700 < us ∧ us < 38500) ∨ 41500 < us)) ∧
  (∀ (expected : ExpectedCadence) (cls : CadenceClass), qualifies expected cls = true ↔
    (expected = .any ∧ cls ≠ .out) ∨ (expected, cls) ∈
      [(ExpectedCadence.c25, CadenceClass.c25), (.c30, .c30), (.c50, .c50), (.c60, .c60)]) ∧
  ∀ (c : Camera) (t : PartTime) (ch : Channel),
    (ch.cadence.lastOpen = none → ch.cadence.adopted = none → ch.cadence.run < 4 →
      ch.cadenceStep c t = ({ ch with cadence := { ch.cadence with lastOpen := some t } }, [])) ∧
    ∀ t0 cls, ch.cadence.lastOpen = some t0 → intervalClass (t - t0).toNat = cls →
      let run := if ch.cadence.lastClass = some cls then ch.cadence.run + 1 else 1
      (ch.cadenceStep c t).1.cadence.lastOpen = some t ∧ (ch.cadenceStep c t).1.cadence.lastClass = some cls ∧
      (ch.cadenceStep c t).1.cadence.run = run ∧
      (ch.cadence.adopted = some cls →
        ch.cadenceStep c t = ({ ch with cadence := ⟨some t, some cls, run, some cls, 0⟩ }, [])) ∧
      (∀ a, ch.cadence.adopted = some a → cls ≠ a → ch.cadence.outside = 0 →
        ch.cadenceStep c t = ({ ch with cadence := ⟨some t, some cls, run, some a, 1⟩ }, [])) ∧
      (∀ a, ch.cadence.adopted = some a → cls ≠ a → ch.cadence.outside = 1 → ch.state = .live → run < 4 →
        ch.cadenceStep c t = ({ ch with
          cadence := ⟨some t, some cls, run, none, 0⟩
          state := .degraded
          reasons := { ch.reasons with cadence := true } }, [.camDegraded c])) ∧
      (∀ a, ch.cadence.adopted = some a → cls ≠ a → ch.cadence.outside = 1 → ch.state = .degraded → ch.reasons = ⟨false, true⟩ →
        run < 4 →
        ch.cadenceStep c t = ({ ch with cadence := ⟨some t, some cls, run, none, 0⟩, reasons := ⟨true, true⟩ }, [.camDegraded c])) ∧
      (ch.cadence.adopted = none → run < 4 ∨ qualifies ch.record.cadence cls = false →
        ch.cadenceStep c t = ({ ch with cadence := { ch.cadence with lastOpen := some t, lastClass := some cls, run := run } }, [])) ∧
      (ch.cadence.adopted = none → 4 ≤ run → qualifies ch.record.cadence cls = true → ch.state = .acquiring →
        ch.cadenceStep c t = ({ ch with cadence := ⟨some t, some cls, run, some cls, 0⟩, state := .live }, [.camRecovered c])) ∧
      (ch.cadence.adopted = none → 4 ≤ run → qualifies ch.record.cadence cls = true → ch.state = .degraded →
        ch.reasons = ⟨true, false⟩ →
        ch.cadenceStep c t = ({ ch with
          cadence := ⟨some t, some cls, run, some cls, 0⟩, state := .live, reasons := ⟨false, false⟩ }, [.camRecovered c])) ∧
      (ch.cadence.adopted = none → 4 ≤ run → qualifies ch.record.cadence cls = true → ch.state = .degraded →
        ch.reasons = ⟨true, true⟩ →
        ch.cadenceStep c t = ({ ch with
          cadence := ⟨some t, some cls, run, some cls, 0⟩, reasons := ⟨false, true⟩ }, []))

/-- The freeze check of a completion: no comparison with a freeze count of 0; otherwise equal signatures are counted, FROZEN joins
when the run reaches the freeze count, and leaves when the signatures differ; otherwise state and reason set stay (R17, R19). -/
def Obligations.FreezeCheckCountsEqualSignatures : Prop :=
  ∀ (c : Camera) (ch : Channel) (sig : BitVec 16),
    let run := if ch.freeze.previous = some sig then ch.freeze.run + 1 else 0
    (ch.record.freezeCount = 0 → ch.freezeCheck c sig = (ch, [])) ∧
    (ch.record.freezeCount ≠ 0 →
      (ch.freezeCheck c sig).1.freeze = ⟨some sig, run⟩ ∧
      (ch.state = .live → ch.reasons = .none → ch.record.freezeCount ≤ run →
        ch.freezeCheck c sig =
          ({ ch with freeze := ⟨some sig, run⟩, state := .degraded, reasons := ⟨false, true⟩ }, [.camDegraded c])) ∧
      (ch.state = .degraded → ch.reasons = ⟨true, false⟩ → ch.record.freezeCount ≤ run →
        ch.freezeCheck c sig = ({ ch with freeze := ⟨some sig, run⟩, reasons := ⟨true, true⟩ }, [.camDegraded c])) ∧
      (ch.state = .live → run < ch.record.freezeCount → ch.freezeCheck c sig = ({ ch with freeze := ⟨some sig, run⟩ }, [])) ∧
      (ch.state = .acquiring → ch.freezeCheck c sig = ({ ch with freeze := ⟨some sig, run⟩ }, [])) ∧
      (ch.state = .degraded → ch.reasons = ⟨true, false⟩ → run < ch.record.freezeCount →
        ch.freezeCheck c sig = ({ ch with freeze := ⟨some sig, run⟩ }, [])) ∧
      (ch.state = .degraded → ch.reasons.frozen = true → ch.freeze.previous = some sig →
        ch.freezeCheck c sig = ({ ch with freeze := ⟨some sig, ch.freeze.run + 1⟩ }, [])) ∧
      (∀ p, ch.state = .degraded → ch.reasons = ⟨false, true⟩ → ch.freeze.previous = some p → p ≠ sig →
        ch.freezeCheck c sig =
          ({ ch with freeze := ⟨some sig, 0⟩, state := .live, reasons := ⟨false, false⟩ }, [.camRecovered c])) ∧
      (∀ p, ch.state = .degraded → ch.reasons = ⟨true, true⟩ → ch.freeze.previous = some p → p ≠ sig →
        ch.freezeCheck c sig = ({ ch with freeze := ⟨some sig, 0⟩, reasons := ⟨true, false⟩ }, [])))

/-- The settling of the held slots: each goes FREE when it is orphaned or its camera has a later READY frame, else it is retained as
the only entry of its ready list (R44). -/
def Obligations.SettlingFreesOrRetains : Prop :=
  ∀ p : Pool, p.HoldsOneEach → p.Settled p.settle

/-! ## Output frames and the clock -/

/-- Each format has the active size and the grid of R48's table. The starts of a group of three follow at 16,667, 16,666 and 16,667
µs, or at 33,334, 33,333 and 33,333 µs in format 3, and so span 50,000 or 100,000 µs; each frame done falls its fixed time after its
start; and an output frame start or frame done whose time has not come, or that the clock or the position in the frame does not
allow, changes nothing (R48, R49, R50; that it is waited for and not refused is notes/assumptions/3.md). -/
def Obligations.OutputFramesKeepTheirTimes : Prop :=
  (∀ f : FormatNo,
    (activeWidth f, activeHeight f) = (if f = 0 then (800, 480) else if f = 1 then (1024, 768) else (1280, 800)) ∧
    ∀ v : View, v.fitsGrid f = true ↔
      (v.header.columns, v.header.rows) = if f = 0 then (25, 15) else if f = 1 then (32, 24) else (40, 25)) ∧
  (∀ f : FormatNo, startInterval f 0 + startInterval f 1 + startInterval f 2 = if f = 3 then 100000 else 50000) ∧
  (∀ f : FormatNo, startInterval f 0 = (if f = 3 then 33334 else 16667) ∧
    startInterval f 1 = (if f = 3 then 33333 else 16666) ∧ startInterval f 2 = (if f = 3 then 33333 else 16667)) ∧
  (∀ (f : FormatNo) (place : Fin 3), doneAfter f = (if f = 0 then 15010 else if f = 1 then 15059 else if f = 2 then 15015 else 30030) ∧
    doneAfter f < startInterval f place) ∧
  ∀ (s : State) (t : PartTime),
    (s.output.clock ≠ .locked ∨ s.output.phase = .active ∨ s.output.phase = .done ∨
        s.output.phase = .blanked ∧ (t - s.output.startedAt).toNat < startInterval s.output.format s.output.groupPos →
      exec (.outputFrameStart t) s = .next { s with partTime := t }) ∧
    (s.output.phase ≠ .active ∨ (t - s.output.startedAt).toNat < doneAfter s.output.format →
      exec (.frameDone t) s = .next { s with partTime := t }) ∧
    (s.output.phase ≠ .done → exec (.blanking t) s = .next { s with partTime := t })

/-- An output frame start in CONFIG raises the counter, opens the active period of a CONFIG frame, marks AGED slots, ages the signals,
and leaves no view in use, no camera usable and nothing to draw (R39, R51, R52, R76, R92, R116, R145). That the selector then holds no
signal snapshot is the model's reading of R117 and R130 (DEDUCED, notes/assumptions/12.md). -/
def Obligations.ConfigFrameStartShowsNothing : Prop :=
  ∀ (s : State) (t : PartTime), s.output.clock = .locked → s.output.opState = .config →
    (s.output.phase = .none ∨
      s.output.phase = .blanked ∧ startInterval s.output.format s.output.groupPos ≤ (t - s.output.startedAt).toNat) →
    ∃ p, exec (.outputFrameStart t) s = .next { s with
        partTime := t
        pool := p
        selector := { s.selector with
          signals := s.selector.signals.aged t s.selector.timeouts, snapshot := none, current := none }
        compositor := .idle
        overlay := { s.overlay with drawList := [], budget := false }
        output := { s.output with
          frameCounter := s.output.frameCounter + 1
          phase := .active
          frameKind := .config
          startedAt := t
          groupPos := if s.output.phase = .none then 0 else s.output.groupPos + 1 }
        port := { s.port with lines := [] } } ∧
      (∀ k, p.slot k =
        match s.pool.slot k with
        | .ready c f aged => .ready c f (aged || decide (5000000 < (t - f.completedAt).toNat))
        | other => other) ∧
      p.ready = s.pool.ready ∧ p.pixels = s.pool.pixels ∧ ∀ c, p.snapshot.get c = none

/-- At an output frame start in RUN with no slot HELD, the newest READY slot of each usable camera is HELD and its older ones go FREE
and are counted superseded, and the camera snapshot records it; a camera not usable keeps its ready list (R40, R41, R42). -/
def Obligations.RunFrameStartHoldsTheNewestFrames : Prop :=
  ∀ (s : State) (t : PartTime), s.output.clock = .locked → s.output.opState = .run →
    (s.output.phase = .none ∨
      s.output.phase = .blanked ∧ startInterval s.output.format s.output.groupPos ≤ (t - s.output.startedAt).toNat) →
    s.SlotsAgree → (∀ k c f o, s.pool.slot k ≠ .held c f o) →
    ∃ s', exec (.outputFrameStart t) s = .next s' ∧ s'.pool.pixels = s.pool.pixels ∧
      ∀ c,
        (∀ k f, s.Usable t c k f →
          s'.pool.slot k = .held c f false ∧ s'.pool.ready.get c = [] ∧
          (∀ j ∈ (s.pool.ready.get c).dropLast, s'.pool.slot j = .free) ∧
          s'.channel c = { s.channel c with counters := { (s.channel c).counters with
            superseded := raise (s.channel c).counters.superseded ((s.pool.ready.get c).length - 1) } } ∧
          s'.pool.snapshot.get c = some ⟨k, f.validLines, (s.channel c).record.width, (s.channel c).record.height,
            (s.channel c).record.gain, (s.channel c).record.offset⟩) ∧
        ((¬ ∃ k f, s.Usable t c k f) →
          s'.pool.snapshot.get c = none ∧ s'.pool.ready.get c = s.pool.ready.get c ∧ s'.channel c = s.channel c ∧
          ∀ k f a, s.pool.slot k = .ready c f a →
            s'.pool.slot k = .ready c f (a || decide (5000000 < (t - f.completedAt).toNat)))

/-- At an output frame start in RUN the selector ages the signal table, fixes the snapshot, and fixes the current view by the cases of
R123; a change of current view latches VIEW_SWITCHED; RULE_SKIPPED is latched where no force stands and a rule that is ON, with its
conditions holding and no matching rule before it, has a target that is not VALID (R116, R117, R122, R123, R125). -/
def Obligations.RunFrameStartFixesTheView : Prop :=
  ∀ (s : State) (t : PartTime), s.output.clock = .locked → s.output.opState = .run →
    (s.output.phase = .none ∨
      s.output.phase = .blanked ∧ startInterval s.output.format s.output.groupPos ≤ (t - s.output.startedAt).toNat) →
    ∃ s', exec (.outputFrameStart t) s = .next s' ∧ s'.partTime = t ∧ s'.pending = s.pending ∧
      s'.views = s.views ∧ s'.port = { s.port with lines := [] } ∧
      s'.output = { s.output with
        frameCounter := s.output.frameCounter + 1
        phase := .active
        frameKind := .run
        startedAt := t
        groupPos := if s.output.phase = .none then 0 else s.output.groupPos + 1 } ∧
      (let signals := s.selector.signals.aged t s.selector.timeouts
       let snap : SignalSnapshot :=
         ⟨if signals.steer.status = .current then some signals.steer.value else none,
          if signals.speed.status = .current then some signals.speed.value else none,
          if signals.gear.status = .current then some signals.gear.value else none,
          if signals.indicator.status = .current then some signals.indicator.value else none,
          if signals.body.status = .current then some signals.body.value else none⟩
       s'.selector =
         (Selector.choose { s.selector with signals := signals, snapshot := some snap } t
           (fun v => decide ((s.view v).state = .valid)) snap).1 ∧
       (member s'.mgmt.latches 38 = true ↔ member s.mgmt.latches 38 = true ∨
         s.selector.forced = none ∧ ∃ i, i < 16 ∧ (s.selector.rule i).enable = true ∧ (s.selector.rule i).passes snap = true ∧
           (s.view (s.selector.rule i).target).state ≠ .valid ∧
           ∀ j, j < i → ¬ ((s.selector.rule j).enable = true ∧ (s.selector.rule j).passes snap = true ∧
             (s.view (s.selector.rule j).target).state = .valid))) ∧
      (∃ v, s'.selector.current = some v) ∧
      (s'.selector.current ≠ s.selector.current → member s'.mgmt.latches 36 = true) ∧
      (s'.selector.current = s.selector.current → member s'.mgmt.latches 36 = member s.mgmt.latches 36) ∧
      { s'.mgmt with latches := s.mgmt.latches } = s.mgmt

/-- At an output frame start in RUN a pending swap is carried out and the draw list is fixed from the active bank with the zone states
that stood before, the zones settle their activity under the new view and re-arm at a switch, and composition through the view in use
begins (R51, R92, R143, R145, R146, R156, R164). That an entry of the means table begins as mean 0, not excluded is the model's choice
(DESIGN CHOICE, notes/assumptions/7.md), and that a zone disarmed or re-armed keeps its last changed count is its reading (DEDUCED,
notes/assumptions/13.md). -/
def Obligations.RunFrameStartArmsAndDraws : Prop :=
  ∀ (s : State) (t : PartTime), s.output.clock = .locked → s.output.opState = .run →
    (s.output.phase = .none ∨
      s.output.phase = .blanked ∧ startInterval s.output.format s.output.groupPos ≤ (t - s.output.startedAt).toNat) →
    ∃ s' v snap, exec (.outputFrameStart t) s = .next s' ∧ s'.selector.current = some v ∧ s'.selector.snapshot = some snap ∧
      s'.compositor = .composing v (0, 0) (List.replicate ((s.view v).header.columns * (s.view v).header.rows) ⟨0, false⟩)
        (List.replicate (s.view v).header.columns 0) ∧
      (let active := if s.overlay.swapPending = true then s.overlay.active.other else s.overlay.active
       s'.overlay = { s.overlay with
         active := active
         swapPending := false
         budget := false
         drawList := drawListOf
           ⟨some v, fun z => (s.monitor.zone z).state.marked, fun c => (s'.pool.snapshot.get c).isSome, snap,
            s.output.frameCounter + 1⟩ (s.overlay.bank active) }) ∧
      s'.monitor.backgrounds = s.monitor.backgrounds ∧
      ∀ z,
        (s'.monitor.zone z).record = (s.monitor.zone z).record ∧
        (s'.monitor.zone z).lastChanged = (s.monitor.zone z).lastChanged ∧
        (s'.monitor.zone z).state =
          (if (s.monitor.zone z).record.enable = false ∨ member (s.monitor.zone z).record.viewMask v.val = false then .disarmed
          else if s.selector.current ≠ some v ∨ (s.monitor.zone z).state = .disarmed then .settling 8
          else (s.monitor.zone z).state) ∧
        ((s.monitor.zone z).state.marked = true → (s'.monitor.zone z).state.marked = false →
          member s'.mgmt.latches (21 + 2 * z.val) = true)

/-- The frame done of a frame that is not composed closes the active period: the lines not yet sent are black, and nothing is settled
or handed to zones. The frame done of a composed frame sends every line not yet sent, composed and drawn over, settles the held
slots, makes the detection step with the tile luma means, latches each zone's rise and fall, and leaves the compositor IDLE (R44, R52,
R53, R94, R109, R110, R113, R158, R162, R163; that the whole frame is composed at its frame done is notes/assumptions/7.md). -/
def Obligations.FrameDoneEndsTheFrame : Prop :=
  (∀ (s : State) (t : PartTime),
    s.output.phase = .active → doneAfter s.output.format ≤ (t - s.output.startedAt).toNat → s.compositor = .idle →
    let blackLines := List.replicate (activeHeight s.output.format - s.port.lines.length)
      (List.replicate (activeWidth s.output.format) (⟨64, 512, 512⟩ : Pixel))
    exec (.frameDone t) s = .next { s with
      partTime := t
      output := { s.output with phase := .done }
      port := { s.port with lines := s.port.lines ++ blackLines } }) ∧
  ∀ (s : State) (t : PartTime) (v : ViewNo) (pos : Nat × Nat) (means : List TileMean) (sums : List Nat),
    s.output.phase = .active → doneAfter s.output.format ≤ (t - s.output.startedAt).toNat →
    s.compositor = .composing v pos means sums → s.pool.HoldsOneEach → 0 < (s.view v).header.columns →
    ∃ s', exec (.frameDone t) s = .next s' ∧ s'.partTime = t ∧ s'.pending = s.pending ∧ s'.channels = s.channels ∧
      s'.views = s.views ∧ s'.selector = s.selector ∧ s'.compositor = .idle ∧ s.pool.Settled s'.pool ∧
      s'.output = { s.output with phase := .done } ∧ { s'.overlay with budget := s.overlay.budget } = s.overlay ∧
      { s'.mgmt with latches := s.mgmt.latches } = s.mgmt ∧
      (∀ z, (s.monitor.zone z).state.marked = false → (s'.monitor.zone z).state.marked = true →
        member s'.mgmt.latches (20 + 2 * z.val) = true) ∧
      (∀ z, (s.monitor.zone z).state.marked = true → (s'.monitor.zone z).state.marked = false →
        member s'.mgmt.latches (21 + 2 * z.val) = true) ∧
      (let sc : Scene := ⟨(s.view v).header, (s.view v).tiles, s.pool⟩
       (∃ results : TileResults, results.columns = sc.header.columns ∧ results.rows = sc.header.rows ∧
         s'.monitor = s.monitor.detect results t ∧
         ∀ tx ty, tx < sc.header.columns → ty < sc.header.rows →
           results.mean (ty * sc.header.columns + tx) =
             ⟨(((List.range 32).map fun j =>
                 ((List.range 32).map fun i => (composePixel sc (tx * 32 + i) (ty * 32 + j)).y).sum).sum + 512) / 1024,
               match (sc.tile tx ty).primary with
               | none => true
               | some c => (s.pool.snapshot.get c).isNone⟩) ∧
       (s'.overlay.budget = true ↔ s.overlay.budget = true ∨ ∃ y, s.port.lines.length ≤ y ∧ y < activeHeight s.output.format ∧
         16 < (s.overlay.drawList.filter fun d => inExtent (s.overlay.bank s.overlay.active) d y).length) ∧
       s'.port.status = s.port.status ∧ s'.port.replies = s.port.replies ∧
       (s.port.lines.length ≤ activeHeight s.output.format → s'.port.lines.length = activeHeight s.output.format) ∧
       (∀ y, y < s.port.lines.length → s'.port.lines[y]? = s.port.lines[y]?) ∧
       ∀ x y, x < activeWidth s.output.format → s.port.lines.length ≤ y → y < activeHeight s.output.format →
         ((s'.port.lines.getD y []).getD x black) =
           (overlayPixel (s.overlay.bank s.overlay.active) s.overlay.drawList x y (composePixel sc x y)).toPixel)

/-- The blanking after a frame done sends the status packet of the moment and then the oldest replies, at most 8, which leave the reply
queue; the status packet is 37 bytes, each item of the state at its offset and in its coding, the five group summaries among them (R54,
R176, R177, R179, R188). -/
def Obligations.BlankingSendsStatusAndReplies : Prop :=
  ∀ (s : State) (t : PartTime), s.output.phase = .done →
    let code (x : Result) : Byte := match x with
      | .ok => 0
      | .accepted => 1
      | .malformed => 2
      | .badIndex => 3
      | .badState => 4
      | .locked => 5
      | .busy => 6
      | .incomplete => 7
      | .conflict => 8
      | .gridMismatch => 9
      | .lockFail => 10
    exec (.blanking t) s = .next { s with
      partTime := t
      output := { s.output with phase := .blanked }
      port := { s.port with
        status := { s with partTime := t }.statusPacket
        replies := (s.mgmt.replies.take 8).map fun r =>
          [r.tag, r.kind, r.target, code r.result, byteOf r.payload.length] ++ r.payload }
      mgmt := { s.mgmt with replies := s.mgmt.replies.drop 8 } } ∧
    let p := { s with partTime := t }.statusPacket
    let group (lo hi : Nat) : Prop := ∃ n, lo ≤ n ∧ n ≤ hi ∧ member s.mgmt.latches n = true
    let viewState (x : ViewState) : Nat := match x with
      | .empty => 0
      | .loading => 1
      | .valid => 2
      | .withdrawn => 3
    let channelState (x : ChannelState) : Nat := match x with
      | .off => 0
      | .acquiring => 1
      | .live => 2
      | .degraded => 3
      | .lost => 4
      | .halted => 5
    let zoneState (x : ZoneState) : Nat := match x with
      | .disarmed => 0
      | .settling _ => 1
      | .quiet => 2
      | .confirming _ => 3
      | .alert => 4
      | .holding _ => 5
    p.length = 37 ∧
    u16 p 0 + 65536 * u16 p 2 = s.output.frameCounter.toNat ∧ u16 p 4 + 65536 * u16 p 6 = t.toNat ∧
    u8 p 8 = (if s.output.opState = .run then 1 else 0) ∧ u8 p 9 = (if s.output.clock = .locked then 0 else 1) ∧
    u8 p 10 = s.output.format.val ∧
    (s.selector.current = none → u8 p 11 = 255) ∧ (∀ v, s.selector.current = some v → u8 p 11 = v.val) ∧
    u8 p 12 = (if s.selector.forced = none then 0 else 1) ∧
    (s.selector.candidate = none → u8 p 13 = 255) ∧ (∀ v since, s.selector.candidate = some ⟨v, since⟩ → u8 p 13 = v.val) ∧
    (∀ v : ViewNo, u16 p 14 / 4 ^ v.val % 4 = viewState (s.view v).state) ∧
    (∀ c : Camera, u8 p (16 + c.val) = channelState (s.channel c).state +
      (if (s.channel c).reasons.cadence = true then 16 else 0) + if (s.channel c).reasons.frozen = true then 32 else 0) ∧
    u8 p 20 < 16 ∧ (∀ c : Camera, (u8 p 20).testBit c.val = (s.pool.snapshot.get c).isSome) ∧
    (∀ z : ZoneNo, u8 p (21 + z.val) = zoneState (s.monitor.zone z).state) ∧
    u8 p 29 = (if s.overlay.active = .b then 1 else 0) + (if s.overlay.swapPending = true then 2 else 0) +
      (if s.overlay.budget = true then 4 else 0) ∧
    u8 p 30 < 32 ∧ ((u8 p 30).testBit 0 = true ↔ group 0 19) ∧ ((u8 p 30).testBit 1 = true ↔ group 20 35) ∧
    ((u8 p 30).testBit 2 = true ↔ group 36 38) ∧ ((u8 p 30).testBit 3 = true ↔ group 39 40) ∧
    ((u8 p 30).testBit 4 = true ↔ group 41 42) ∧
    u16 p 31 = s.mgmt.requestDrops.toNat ∧ u16 p 33 = s.output.restartCount.toNat ∧
    u8 p 35 = (if s.output.restartCause = .request then 1 else 0) ∧
    (s.mgmt.replies.length ≤ 16 → u8 p 36 = s.mgmt.replies.length)

/-- A lock event ends the attempt of its kind with the clock LOCKED in the target format; an expiry after 20,000 µs falls to format
0 and latches LOCK_FAIL; a FORMAT attempt answers its request; a RELOCK expiry in RUN moves the part to CONFIG; and each event has
no effect where its attempt is not in progress or its time has not come (R50, R58, R59, R62, R63, R165). The model's readings in it:
no effect before the time, and the output frame start at the lock or the fall a command of its own (DEDUCED,
notes/assumptions/3.md); the signal snapshot kept at the fall (DEDUCED, notes/assumptions/12.md); a disarmed zone's last changed
count kept (DEDUCED, notes/assumptions/13.md). That the camera snapshot of an abandoned frame stands through the fall is the model's
choice (DESIGN CHOICE, notes/assumptions/24.md). -/
def Obligations.LockAttemptsEnd : Prop :=
  ∀ (s : State) (t t0 : PartTime) (m : Message),
    (s.output.clock = .settling .format s.output.format t0 → s.mgmt.executor = .attempt m → m.kind = 9 →
      exec (.lockEventFormat t) s = .next ({ s with
        partTime := t
        output := { s.output with clock := .locked, phase := .none }
        mgmt := { s.mgmt with executor := .idle } }.answered m.tag 9 0 .ok []) ∧
      (20000 ≤ (t - t0).toNat → exec (.formatLockExpiry t) s = .next (({ s with
        partTime := t
        output := { s.output with format := 0, clock := .locked, phase := .none }
        mgmt := { s.mgmt with executor := .idle } }.latched .lockFail).answered m.tag 9 0 .lockFail [])) ∧
      ((t - t0).toNat < 20000 → exec (.formatLockExpiry t) s = .next { s with partTime := t }) ∧
      exec (.lockEventRelock t) s = .next { s with partTime := t } ∧
      exec (.relockExpiry t) s = .next { s with partTime := t }) ∧
    (s.output.clock = .settling .relock s.output.format t0 →
      exec (.lockEventRelock t) s = .next { s with
        partTime := t, output := { s.output with clock := .locked, phase := .none } } ∧
      ((t - t0).toNat < 20000 → exec (.relockExpiry t) s = .next { s with partTime := t }) ∧
      (20000 ≤ (t - t0).toNat → s.output.opState = .config →
        exec (.relockExpiry t) s = .next ({ s with
          partTime := t, output := { s.output with format := 0, clock := .locked, phase := .none } }.latched .lockFail)) ∧
      (20000 ≤ (t - t0).toNat → s.output.opState = .run →
        ∃ s', exec (.relockExpiry t) s = .next s' ∧
          s'.output = { s.output with format := 0, clock := .locked, phase := .none, opState := .config } ∧
          s'.selector = { s.selector with current := none, candidate := none } ∧
          s'.overlay = (if s.overlay.swapPending = true then
            { s.overlay with active := s.overlay.active.other, swapPending := false } else s.overlay) ∧
          (∀ z, s'.monitor.zone z = { s.monitor.zone z with state := .disarmed }) ∧
          (∀ i, i < 1024 → s'.monitor.background i = { s.monitor.background i with resume := true }) ∧
          member s'.mgmt.latches 39 = true ∧
          (∀ z, (s.monitor.zone z).state.marked = true → member s'.mgmt.latches (21 + 2 * z.val) = true) ∧
          { s'.mgmt with latches := s.mgmt.latches } = s.mgmt ∧ s'.channels = s.channels ∧ s'.pool = s.pool ∧
          s'.views = s.views ∧ s'.pending = s.pending ∧ s'.port = s.port) ∧
      exec (.lockEventFormat t) s = .next { s with partTime := t } ∧
      exec (.formatLockExpiry t) s = .next { s with partTime := t }) ∧
    (s.output.clock = .locked →
      exec (.lockEventFormat t) s = .next { s with partTime := t } ∧
      exec (.lockEventRelock t) s = .next { s with partTime := t } ∧
      exec (.formatLockExpiry t) s = .next { s with partTime := t } ∧
      exec (.relockExpiry t) s = .next { s with partTime := t })

/-- An unlock in format 1 to 3 latches UNLOCKED, stops output and begins a RELOCK attempt; a composition is abandoned, its held slots
settled, its means and draw list discarded; the operating state, the selector and the zones stay; in SETTLING or format 0 it has no
effect (R45, R50, R55, R61, R95, R150). The number of lines already sent is free (notes/assumptions/6.md), and that the camera
snapshot of the abandoned frame stands is the model's choice (DESIGN CHOICE, notes/assumptions/24.md). -/
def Obligations.UnlockBeginsARelockAttempt : Prop :=
  ∀ (s : State) (t : PartTime),
    (s.output.clock ≠ .locked ∨ s.output.format = 0 → exec (.unlockEvent t) s = .next { s with partTime := t }) ∧
    (s.output.clock = .locked → s.output.format ≠ 0 → s.pool.HoldsOneEach →
      ∃ s', exec (.unlockEvent t) s = .next s' ∧ s'.partTime = t ∧ s'.pending = s.pending ∧
        s'.output = { s.output with clock := .settling .relock s.output.format t, phase := .none } ∧
        s'.mgmt = { s.mgmt with latches := s.mgmt.latches ||| BitVec.twoPow 43 40 } ∧
        s'.channels = s.channels ∧ s'.views = s.views ∧ s'.selector = s.selector ∧ s'.monitor = s.monitor ∧
        s'.compositor = .idle ∧
        (s.compositor = .idle → s'.pool = s.pool ∧ { s'.overlay with budget := s.overlay.budget } = s.overlay) ∧
        (s.compositor ≠ .idle → s.pool.Settled s'.pool ∧
          { s'.overlay with budget := s.overlay.budget } = { s.overlay with drawList := [] }) ∧
        s'.port.status = s.port.status ∧ s'.port.replies = s.port.replies)

/-- FORMAT: unchanged, refused in RUN, at once to format 0, or a lock attempt whose reply is held back; a value above 3 is
MALFORMED; in the active period the frame is cut, with the same effect but for the lines sent and the overlay-budget flag, which are
free (notes/assumptions/6.md; R56, R57). That the output frame start after FORMAT 0 is a command of its own is the model's reading
of R56's "at once" (DEDUCED, notes/assumptions/3.md). -/
def Obligations.FormatActsByTheOperatingState : Prop :=
  ∀ (s : State) (t : PartTime) (f : FormatNo) (rest : List Message) (tag target sub : Byte) (index : BitVec 16),
    (s.Awaits (request 9 tag target sub index [byteOf f.val]) rest →
      (s.output.opState = .run → ¬ (f = 0 ∧ s.output.format = 0 ∧ s.output.clock = .locked) →
        exec (.format t) s = .next ((s.taken t rest).answered tag 9 0 .badState [])) ∧
      ((s.output.opState = .config ∨ f = 0) → f = s.output.format → s.output.clock = .locked →
        exec (.format t) s = .next ((s.taken t rest).answered tag 9 0 .ok [])) ∧
      (s.output.opState = .config → f = 0 → s.output.phase ≠ .active → ¬ (f = s.output.format ∧ s.output.clock = .locked) →
        exec (.format t) s = .next ({ (s.taken t rest) with
          output := { s.output with format := 0, clock := .locked, phase := .none } }.answered tag 9 0 .ok [])) ∧
      (s.output.opState = .config → f ≠ 0 → s.output.phase ≠ .active → ¬ (f = s.output.format ∧ s.output.clock = .locked) →
        exec (.format t) s = .next { (s.taken t rest) with
          output := { s.output with format := f, clock := .settling .format f t, phase := .none }
          mgmt := { s.mgmt with requests := rest, executor := .attempt (request 9 tag target sub index [byteOf f.val]) } }) ∧
      (s.output.opState = .config → s.output.phase = .active → ¬ (f = s.output.format ∧ s.output.clock = .locked) →
        ∃ s', exec (.format t) s = .next s' ∧ (s.compositor = .idle → s'.overlay = s.overlay) ∧
          { s' with
            port := { s'.port with lines := s.port.lines }
            overlay := { s'.overlay with budget := s.overlay.budget } } =
          if f = 0 then { (s.taken t rest) with
            output := { s.output with format := 0, clock := .locked, phase := .none } }.answered tag 9 0 .ok []
          else { (s.taken t rest) with
            output := { s.output with format := f, clock := .settling .format f t, phase := .none }
            mgmt := { s.mgmt with requests := rest, executor := .attempt (request 9 tag target sub index [byteOf f.val]) } })) ∧
    ∀ b : Byte, 3 < b.toNat → s.Awaits (request 9 tag target sub index [b]) rest →
      exec (.format t) s = .next ((s.taken t rest).answered tag 9 0 .malformed [])

/-- RUN: its tests in order, and its acceptance, which changes the operating state and sets every camera's counters to 0 (R66, R67). -/
def Obligations.RunIsTestedAndAccepted : Prop :=
  ∀ (s : State) (t : PartTime) (rest : List Message) (tag target sub : Byte) (index : BitVec 16),
    s.Awaits (request 10 tag target sub index []) rest →
    (s.output.opState = .run → exec (.run t) s = .next ((s.taken t rest).answered tag 10 0 .badState [])) ∧
    (s.output.opState = .config → s.output.clock ≠ .locked →
      exec (.run t) s = .next ((s.taken t rest).answered tag 10 0 .busy [])) ∧
    (s.output.opState = .config → s.output.clock = .locked → (s.view s.selector.defaultView).state ≠ .valid →
      exec (.run t) s = .next ((s.taken t rest).answered tag 10 0 .incomplete [])) ∧
    (s.output.opState = .config → s.output.clock = .locked → (s.view s.selector.defaultView).state = .valid →
      (∃ v, (s.view v).state = .valid ∧ (s.view v).fitsGrid s.output.format = false) →
      exec (.run t) s = .next ((s.taken t rest).answered tag 10 0 .gridMismatch [])) ∧
    (s.output.opState = .config → s.output.clock = .locked → (s.view s.selector.defaultView).state = .valid →
      (∀ v, (s.view v).state = .valid → (s.view v).fitsGrid s.output.format = true) →
      ∃ ch, exec (.run t) s = .next ({ (s.taken t rest) with
          output := { s.output with opState := .run }, channels := ch }.answered tag 10 0 .ok []) ∧
        ∀ c, ch.get c = { s.channel c with counters := ⟨0, 0, 0, 0, 0⟩ })

/-- RESTART is taken even while the reply queue is full, makes no reply, and resets each block as its chapter gives, keeping the
records, rules, settings, tables, format, clock, frame counter, part time and the kind of the frame in progress, fixed at its start
(R28, R47, R52, R69, R90, R131, R151, R165, R166, R172). -/
def Obligations.RestartResetsTheBlocks : Prop :=
  ∀ (s : State) (t : PartTime) (rest : List Message) (tag target sub : Byte) (index : BitVec 16),
    s.mgmt.executor = .idle → s.mgmt.requests = request 11 tag target sub index [] :: rest →
    ∃ s', exec (.restart t) s = .next s' ∧ s'.partTime = t ∧ s'.pending = s.pending ∧
      s'.output = { s.output with
        opState := .config, restartCount := raise s.output.restartCount 1, restartCause := .request } ∧
      (∀ c, s'.channel c =
        ⟨(s.channel c).record, .off, .none, none, .cleared, .cleared, none, 0, .zero, (s.channel c).lastFrame⟩) ∧
      (∀ k, s'.pool.slot k = .free) ∧ (∀ c, s'.pool.ready.get c = [] ∧ s'.pool.snapshot.get c = none) ∧
      s'.pool.pixels = s.pool.pixels ∧
      (∀ v, s'.view v = if (s.view v).state = .loading then
          { s.view v with state := .empty, headerWritten := false, written := [] } else s.view v) ∧
      s'.selector = { s.selector with
        signals := .cleared, snapshot := none, current := none, candidate := none, forced := none } ∧
      s'.compositor = .idle ∧
      s'.overlay = ⟨s.overlay.bankA, s.overlay.bankB, .a, false, [], false⟩ ∧
      (∀ z, s'.monitor.zone z = ⟨(s.monitor.zone z).record, .disarmed, 0⟩) ∧
      (∀ i, i < 1024 → s'.monitor.background i = { s.monitor.background i with resume := true }) ∧
      s'.mgmt = ⟨[], .idle, [], 0, 0, 0⟩

/-! ## Arrivals and the executor -/

/-- A request joins the tail of the request queue while fewer than 16 wait, and is dropped, counted and latched while 16 wait; a
counter that is raised holds at 65535 (R27, R69, R167, R169, R181). -/
def Obligations.RequestArrivalJoinsOrIsDropped : Prop :=
  (∀ (n : BitVec 16) (k : Nat), (raise n k).toNat = min 65535 (n.toNat + k)) ∧
  ∀ (s : State) (t : PartTime) (m : Message), m.cls ≠ 2 →
    (s.mgmt.requests.length < 16 → exec (.requestArrival t m) s = .next { s with
      partTime := t, mgmt := { s.mgmt with requests := s.mgmt.requests ++ [m] } }) ∧
    (16 ≤ s.mgmt.requests.length → exec (.requestArrival t m) s = .next ({ s with
      partTime := t, mgmt := { s.mgmt with requestDrops := raise s.mgmt.requestDrops 1 } }.latched .requestDropped))

/-- A signal message is applied to the entry of its kind at its arrival, clamped, or is dropped, counted and latched (R115, R181,
R185). -/
def Obligations.SignalMessageIsAppliedOrDropped : Prop :=
  ∀ (s : State) (t : PartTime) (tag target sub lo hi b : Byte) (index : BitVec 16) (m : Message),
    (exec (.signalMessage t ⟨2, 1, tag, 2, target, sub, index, [lo, hi]⟩) s = .next { s with
      partTime := t
      selector := { s.selector with signals := { s.selector.signals with
        steer := ⟨.current, max (-450) (min 450 (hi ++ lo).toInt), t⟩ } } }) ∧
    (exec (.signalMessage t ⟨2, 2, tag, 2, target, sub, index, [lo, hi]⟩) s = .next { s with
      partTime := t
      selector := { s.selector with signals := { s.selector.signals with
        speed := ⟨.current, min 1500 (hi ++ lo).toNat, t⟩ } } }) ∧
    (∀ g : Gear, b.toNat = g.code → exec (.signalMessage t ⟨2, 3, tag, 1, target, sub, index, [b]⟩) s = .next { s with
      partTime := t
      selector := { s.selector with signals := { s.selector.signals with gear := ⟨.current, g, t⟩ } } }) ∧
    (∀ i : Indicator, b.toNat = i.code → exec (.signalMessage t ⟨2, 4, tag, 1, target, sub, index, [b]⟩) s = .next { s with
      partTime := t
      selector := { s.selector with signals := { s.selector.signals with indicator := ⟨.current, i, t⟩ } } }) ∧
    (exec (.signalMessage t ⟨2, 5, tag, 1, target, sub, index, [b]⟩) s = .next { s with
      partTime := t
      selector := { s.selector with signals := { s.selector.signals with body := ⟨.current, b, t⟩ } } }) ∧
    (m.cls = 2 →
      (m.kind = 0 ∨ 5 < m.kind.toNat ∨ (m.kind = 1 ∨ m.kind = 2) ∧ m.length ≠ 2 ∨
        (m.kind = 3 ∨ m.kind = 4 ∨ m.kind = 5) ∧ m.length ≠ 1 ∨
        (m.kind = 3 ∨ m.kind = 4) ∧ 3 < (m.payload.getD 0 0).toNat) →
      exec (.signalMessage t m) s = .next ({ s with
        partTime := t, mgmt := { s.mgmt with signalDrops := raise s.mgmt.signalDrops 1 } }.latched .signalDropped))

/-- A request that fails the whole-message tests is refused with MALFORMED by the command of its row and changes nothing else; an
undefined class, kind, target, view action or bank fails them, and so does a length that the kind and target do not require (R168, R171,
R173, R176, R183, R184). That the reply to a message of undefined class carries its target byte is the model's reading (DEDUCED,
notes/assumptions/11.md), and so is the row that executes an undefined request (DEDUCED, notes/assumptions/5.md). -/
def Obligations.MalformedRequestsAreRefused : Prop :=
  ∀ (s : State) (t : PartTime) (m : Message) (rest : List Message), s.Awaits m rest →
    (wholeMessageOk m = false → exec ((requestRow m).command t) s = .next
      ((s.taken t rest).answered m.tag m.kind (if m.kind = 2 ∨ m.kind = 3 then m.target else 0) .malformed [])) ∧
    (m.cls ≠ 1 ∨ m.kind = 0 ∨ 11 < m.kind.toNat ∨ (m.kind = 2 ∨ m.kind = 3) ∧ (m.target = 0 ∨ 12 < m.target.toNat) ∨
        m.kind = 4 ∧ (u8 m.payload 0 = 0 ∨ 4 < u8 m.payload 0) →
      wholeMessageOk m = false ∧ exec (.undefinedRequest t) s = .next
        ((s.taken t rest).answered m.tag m.kind (if m.kind = 2 ∨ m.kind = 3 then m.target else 0) .malformed [])) ∧
    ((m.kind = 2 ∨ m.kind = 3) → 4 ≤ m.target.toNat → m.target.toNat ≤ 7 → 1 < m.sub.toNat → wholeMessageOk m = false) ∧
    ((m.kind = 1 ∨ m.kind = 5 ∨ m.kind = 10 ∨ m.kind = 11) → m.length ≠ 0 → wholeMessageOk m = false) ∧
    (m.kind = 2 → (m.target.toNat, m.length.toNat) ∉
        [(1, 21), (2, 17), (3, 42), (4, 24), (5, 7), (7, 57), (8, 17), (9, 3), (10, 13), (11, 10), (12, 0)] →
      ¬ (m.target = 6 ∧ 1 ≤ m.length.toNat ∧ m.length.toNat ≤ 64) → wholeMessageOk m = false) ∧
    (m.kind = 3 → m.length.toNat ≠ (if m.target = 6 then 1 else 0) → wholeMessageOk m = false) ∧
    (m.kind = 4 → m.length.toNat ≠ (if u8 m.payload 0 = 1 then 3 else 2) → wholeMessageOk m = false) ∧
    ((m.kind = 7 ∨ m.kind = 9) → m.length ≠ 1 → wholeMessageOk m = false) ∧
    (m.kind = 6 → m.length ≠ 2 → wholeMessageOk m = false) ∧ (m.kind = 8 → m.length ≠ 6 → wholeMessageOk m = false)

/-- The executor waits, and nothing but part time changes, while a FORMAT attempt is in execution, while no request waits, while the
head belongs to another row, and while the reply queue is full and the head is no RESTART of length 0 (R60, R170; that the command
then leaves the state as it is, is notes/assumptions/1.md). -/
def Obligations.TheExecutorWaits : Prop :=
  ∀ (s : State) (t : PartTime) (row : RequestRow),
    (s.mgmt.executor ≠ .idle ∨ s.mgmt.requests = [] ∨
      (∃ m rest, s.mgmt.requests = m :: rest ∧
        (requestRow m ≠ row ∨ 16 ≤ s.mgmt.replies.length ∧ ¬ (m.cls = 1 ∧ m.kind = 11 ∧ m.length = 0)))) →
    exec (row.command t) s = .next { s with partTime := t }

/-! ## Reading -/

/-- STATUS_READ and each TABLE_READ change nothing and carry the record as it stands, laid out by chapter 10, and an index beyond the
table is BAD_INDEX; the items that are read only follow the record in their own coding (R74, R118, R120, R140, R154, R174, R175, R188,
R189). -/
def Obligations.ReadsChangeNothing : Prop :=
  ∀ (s : State) (t : PartTime) (rest : List Message) (tag target sub : Byte) (index : BitVec 16) (bank : BankId),
    let n := index.toNat
    let read (target sub : Byte) := request 3 tag target sub index []
    let ok (kind target : Byte) (payload : List Byte) : Host.Outcome State Fault Refusal :=
      .next ((s.taken t rest).answered tag kind target .ok payload)
    let beyond (target : Byte) : Host.Outcome State Fault Refusal :=
      .next ((s.taken t rest).answered tag 3 target .badIndex [])
    let bankByte : Byte := if bank = .a then 0 else 1
    let counters (x : Counters) := le16 x.completed.toNat ++ le16 x.discarded.toNat ++ le16 x.overwritten.toNat ++
      le16 x.skipped.toNat ++ le16 x.superseded.toNat
    let drops := le16 s.mgmt.requestDrops.toNat ++ le16 s.mgmt.signalDrops.toNat
    let lastFrame (x : FrameRecord) : List Byte := byteOf x.camera.val :: (le16 x.number.toNat ++ le16 x.sequence.toNat ++
      le32 x.completedAt ++ le16 x.validLines ++ [byteOf x.flags.toNat] ++ le16 x.signature.toNat)
    let viewState (x : View) : Byte := match x.state with
      | .empty => 0
      | .loading => 1
      | .valid => 2
      | .withdrawn => 3
    let zoneItems (x : Zone) : List Byte := match x.state with
      | .disarmed => [0, 0] ++ le16 x.lastChanged ++ [0, 0, 0, 0]
      | .settling left => [1, byteOf left] ++ le16 x.lastChanged ++ [0, 0, 0, 0]
      | .quiet => [2, 0] ++ le16 x.lastChanged ++ [0, 0, 0, 0]
      | .confirming hits => [3, byteOf hits] ++ le16 x.lastChanged ++ [0, 0, 0, 0]
      | .alert => [4, 0] ++ le16 x.lastChanged ++ [0, 0, 0, 0]
      | .holding since => [5, 0] ++ le16 x.lastChanged ++ le32 since
    let entry (status : SignalStatus) (value : List Byte) (arrival : PartTime) : List Byte :=
      (match status with
        | .absent => 0
        | .current => 1
        | .expired => 2) :: (value ++ le32 arrival)
    let gear : Byte := match s.selector.signals.gear.value with
      | .park => 0
      | .neutral => 1
      | .forward => 2
      | .reverse => 3
    let indicator : Byte := match s.selector.signals.indicator.value with
      | .off => 0
      | .nearside => 1
      | .offside => 2
      | .hazard => 3
    let signals (x : SignalTable) : List Byte :=
      entry x.steer.status (le16 (x.steer.value % 65536).toNat) x.steer.arrival ++
        entry x.speed.status (le16 x.speed.value) x.speed.arrival ++ entry x.gear.status [gear, 0] x.gear.arrival ++
        entry x.indicator.status [indicator, 0] x.indicator.arrival ++ entry x.body.status [x.body.value, 0] x.body.arrival
    (s.Awaits (request 1 tag target sub index []) rest → exec (.statusRead t) s = ok 1 0
      (le32 s.output.frameCounter ++ le32 t ++
        [if s.output.opState = .run then 1 else 0, if s.output.clock = .locked then 0 else 1, byteOf s.output.format.val] ++
        le16 s.output.restartCount.toNat ++ [if s.output.restartCause = .request then 1 else 0] ++
        (counters (s.channel 0).counters ++ counters (s.channel 1).counters ++ counters (s.channel 2).counters ++
          counters (s.channel 3).counters) ++ drops)) ∧
    (s.Awaits (read 1 sub) rest →
      (∀ c : Camera, n = c.val → exec (.tableReadCameraRecord t) s = ok 3 1 (encodeCameraRecord (s.channel c).record)) ∧
      (3 < n → exec (.tableReadCameraRecord t) s = beyond 1)) ∧
    (s.Awaits (read 2 sub) rest →
      (∀ v : ViewNo, n = v.val → exec (.tableReadViewHeader t) s = ok 3 2
        (encodeViewHeader (s.view v).header ++ [if (s.view v).headerWritten = true then 1 else 0, viewState (s.view v)])) ∧
      (7 < n → exec (.tableReadViewHeader t) s = beyond 2)) ∧
    (s.Awaits (read 3 sub) rest →
      (∀ v : ViewNo, sub.toNat = v.val → n < 1024 → exec (.tableReadTile t) s = ok 3 3
        (encodeTile (Table.read TileRecord.cleared (s.view v).tiles n) ++
          [if Table.read false (s.view v).written n = true then 1 else 0])) ∧
      (7 < sub.toNat ∨ 1023 < n → exec (.tableReadTile t) s = beyond 3)) ∧
    (s.Awaits (read 4 bankByte) rest →
      (n < 64 → exec (.tableReadOverlayElement t) s = ok 3 4 (encodeElement ((s.overlay.bank bank).element n))) ∧
      (63 < n → exec (.tableReadOverlayElement t) s = beyond 4)) ∧
    (s.Awaits (read 5 bankByte) rest →
      (n < 16 → exec (.tableReadPaletteEntry t) s = ok 3 5 (encodePalette ((s.overlay.bank bank).paletteEntry n))) ∧
      (15 < n → exec (.tableReadPaletteEntry t) s = beyond 5)) ∧
    (∀ len : Byte, s.Awaits (request 3 tag 6 bankByte index [len]) rest →
      (1 ≤ len.toNat → len.toNat ≤ 64 → n ≤ 16383 → n + len.toNat ≤ 16384 → exec (.tableReadSpriteChunk t) s = ok 3 6
        ((List.range len.toNat).map fun i => (s.overlay.bank bank).spriteByte (n + i))) ∧
      (len = 0 ∨ 64 < len.toNat ∨ 16383 < n ∨ 16384 < n + len.toNat → exec (.tableReadSpriteChunk t) s = beyond 6)) ∧
    (s.Awaits (read 7 bankByte) rest →
      (n < 31 → exec (.tableReadPathBand t) s = ok 3 7 (encodeBand ((s.overlay.bank bank).band n))) ∧
      (30 < n → exec (.tableReadPathBand t) s = beyond 7)) ∧
    (s.Awaits (read 8 sub) rest →
      (n < 16 → exec (.tableReadRule t) s = ok 3 8 (encodeRule (s.selector.rule n))) ∧
      (15 < n → exec (.tableReadRule t) s = beyond 8)) ∧
    (s.Awaits (read 9 sub) rest →
      exec (.tableReadSelectionSettings t) s = ok 3 9 (byteOf s.selector.defaultView.val :: le16 s.selector.dwell)) ∧
    (s.Awaits (read 10 sub) rest →
      (∀ z : ZoneNo, n = z.val → exec (.tableReadZoneRecord t) s =
        ok 3 10 (encodeZoneRecord (s.monitor.zone z).record ++ zoneItems (s.monitor.zone z))) ∧
      (7 < n → exec (.tableReadZoneRecord t) s = beyond 10)) ∧
    (s.Awaits (read 11 sub) rest →
      exec (.tableReadSignalTimeouts t) s = ok 3 11 (encodeTimeouts s.selector.timeouts ++ signals s.selector.signals)) ∧
    (s.Awaits (read 12 sub) rest →
      (∀ c : Camera, n = c.val → exec (.tableReadCounters t) s = ok 3 12
        (counters (s.channel c).counters ++ lastFrame (s.channel c).lastFrame)) ∧
      (n = 4 → exec (.tableReadCounters t) s = ok 3 12 drops) ∧
      (4 < n → exec (.tableReadCounters t) s = beyond 12))

/-! ## Writing -/

/-- TABLE_WRITE of a camera record: BAD_INDEX, MALFORMED, LOCKED, BUSY and CONFLICT in this order, else the record is stored whole and
the reply carries it; what is stored is the payload's fields brought into their ranges (R2, R3, R4, R171). -/
def Obligations.CameraRecordWriteIsTestedInOrder : Prop :=
  ∀ (s : State) (t : PartTime) (rest : List Message) (tag sub : Byte) (index : BitVec 16) (payload : List Byte) (c : Camera)
    (r : CameraRecord),
    payload.length = 21 → s.Awaits (request 2 tag 1 sub index payload) rest →
    (3 < index.toNat → exec (.tableWriteCameraRecord t) s = .next ((s.taken t rest).answered tag 2 1 .badIndex [])) ∧
    (index.toNat = c.val →
      (4 < u8 payload 4 ∨ 63 < u8 payload 10 ∨ 63 < u8 payload 11 ∨ u8 payload 16 = 0 ∨ 4 < u8 payload 16 ∨
          (∃ i, i < u8 payload 16 ∧ 15 < u8 payload (17 + i)) ∨
          (∃ i j, i < j ∧ j < u8 payload 16 ∧ u8 payload (17 + i) = u8 payload (17 + j)) →
        exec (.tableWriteCameraRecord t) s = .next ((s.taken t rest).answered tag 2 1 .malformed [])) ∧
      (u8 payload 4 ≤ 4 → u8 payload 10 ≤ 63 → u8 payload 11 ≤ 63 → 1 ≤ u8 payload 16 → u8 payload 16 ≤ 4 →
        (∀ i, i < u8 payload 16 → u8 payload (17 + i) ≤ 15) →
        (∀ i j, i < j → j < u8 payload 16 → u8 payload (17 + i) ≠ u8 payload (17 + j)) →
        ∃ x, readCameraRecord payload = .ok x) ∧
      (readCameraRecord payload = .ok r →
        (r.width = max 64 (min 1920 (u16 payload 0)) / 2 * 2 ∧ r.height = max 64 (min 1080 (u16 payload 2)) ∧
          [ExpectedCadence.any, .c25, .c30, .c50, .c60][u8 payload 4]? = some r.cadence ∧
          r.staleLimit = max 20 (min 500 (u16 payload 5)) ∧ r.lossLimit = max 50 (min 2000 (u16 payload 7)) ∧
          r.freezeCount = (if u8 payload 9 = 0 then 0 else max 2 (min 15 (u8 payload 9))) ∧
          r.keepMask.toNat = u8 payload 10 ∧ r.haltMask.toNat = u8 payload 11 ∧ r.gain = min 1023 (u16 payload 12) ∧
          r.offset = max (-256) (min 255 (s16 payload 14)) ∧
          r.slotList.map Fin.val = (List.range (u8 payload 16)).map fun i => u8 payload (17 + i)) ∧
        ((s.channel c).state ≠ .off →
          exec (.tableWriteCameraRecord t) s = .next ((s.taken t rest).answered tag 2 1 .locked [])) ∧
        ((s.channel c).state = .off → (∃ k ∈ (s.channel c).record.slotList, ∃ d f o, s.pool.slot k = .held d f o) →
          exec (.tableWriteCameraRecord t) s = .next ((s.taken t rest).answered tag 2 1 .busy [])) ∧
        ((s.channel c).state = .off → (∀ k ∈ (s.channel c).record.slotList, ∀ d f o, s.pool.slot k ≠ .held d f o) →
          (∃ k ∈ r.slotList, ∃ d, d ≠ c ∧ k ∈ (s.channel d).record.slotList) →
          exec (.tableWriteCameraRecord t) s = .next ((s.taken t rest).answered tag 2 1 .conflict [])) ∧
        ((s.channel c).state = .off → (∀ k ∈ (s.channel c).record.slotList, ∀ d f o, s.pool.slot k ≠ .held d f o) →
          (∀ k ∈ r.slotList, ∀ d, d ≠ c → k ∉ (s.channel d).record.slotList) →
          exec (.tableWriteCameraRecord t) s = .next
            (((s.taken t rest).setChannel c { s.channel c with record := r }).answered tag 2 1 .ok (encodeCameraRecord r)))))

/-- TABLE_WRITE of a view header and of a tile record: BAD_INDEX, MALFORMED and LOCKED in this order, else stored whole in a LOADING
view with the header-written mark set or the index in the tile-written set (R72, R73, R75, R79, R80). -/
def Obligations.ViewWritesNeedALoadingView : Prop :=
  ∀ (s : State) (t : PartTime) (rest : List Message) (tag sub : Byte) (index : BitVec 16) (payload : List Byte) (v : ViewNo),
    let colour (p : Pixel) (i : Nat) : Prop := p.y.toNat = min 1023 (u16 payload i) ∧ p.cb.toNat = min 1023 (u16 payload (i + 2)) ∧
      p.cr.toNat = min 1023 (u16 payload (i + 4))
    let coord (i : Nat) : Coord := ⟨min 32767 (u16 payload i), min 32767 (u16 payload (i + 2))⟩
    let camera (x : Option Camera) (i : Nat) : Prop :=
      (x = none ∧ u8 payload i = 15) ∨ ∃ c : Camera, x = some c ∧ u8 payload i = c.val
    (payload.length = 17 → s.Awaits (request 2 tag 2 sub index payload) rest →
      (7 < index.toNat → exec (.tableWriteViewHeader t) s = .next ((s.taken t rest).answered tag 2 2 .badIndex [])) ∧
      (index.toNat = v.val → 1 < u8 payload 14 →
        exec (.tableWriteViewHeader t) s = .next ((s.taken t rest).answered tag 2 2 .malformed [])) ∧
      (index.toNat = v.val → u8 payload 14 ≤ 1 → (s.view v).state ≠ .loading →
        exec (.tableWriteViewHeader t) s = .next ((s.taken t rest).answered tag 2 2 .locked [])) ∧
      (u8 payload 14 ≤ 1 → ∃ h, readViewHeader payload = .ok h) ∧
      (∀ h, index.toNat = v.val → readViewHeader payload = .ok h → (s.view v).state = .loading →
        h.columns = max 1 (min 40 (u8 payload 0)) ∧ h.rows = max 1 (min 25 (u8 payload 1)) ∧
        colour h.background 2 ∧ colour h.fault 8 ∧ (h.hatch = true ↔ u8 payload 14 = 1) ∧ h.label.toNat = u16 payload 15 ∧
        exec (.tableWriteViewHeader t) s = .next
          (((s.taken t rest).setView v { s.view v with header := h, headerWritten := true }).answered tag 2 2 .ok
            (encodeViewHeader h)))) ∧
    (payload.length = 42 → s.Awaits (request 2 tag 3 sub index payload) rest →
      (7 < sub.toNat ∨ 1023 < index.toNat →
        exec (.tableWriteTile t) s = .next ((s.taken t rest).answered tag 2 3 .badIndex [])) ∧
      (sub.toNat = v.val → index.toNat ≤ 1023 →
        ((3 < u8 payload 0 ∧ u8 payload 0 ≠ 15) ∨ (3 < u8 payload 1 ∧ u8 payload 1 ≠ 15) →
          exec (.tableWriteTile t) s = .next ((s.taken t rest).answered tag 2 3 .malformed [])) ∧
        ((u8 payload 0 ≤ 3 ∨ u8 payload 0 = 15) → (u8 payload 1 ≤ 3 ∨ u8 payload 1 = 15) → ∃ r, readTile payload = .ok r) ∧
        ∀ r, readTile payload = .ok r →
          (camera r.primary 0 ∧ camera r.secondary 1 ∧
            r.primaryCorners = ⟨coord 2, coord 6, coord 10, coord 14⟩ ∧ r.secondaryCorners = ⟨coord 18, coord 22, coord 26, coord 30⟩ ∧
            r.weights = ⟨min 256 (u16 payload 34), min 256 (u16 payload 36), min 256 (u16 payload 38), min 256 (u16 payload 40)⟩) ∧
          ((s.view v).state ≠ .loading →
            exec (.tableWriteTile t) s = .next ((s.taken t rest).answered tag 2 3 .locked [])) ∧
          ((s.view v).state = .loading →
            ∃ x : View, exec (.tableWriteTile t) s = .next
                (((s.taken t rest).setView v x).answered tag 2 3 .ok (encodeTile r)) ∧
              x.state = .loading ∧ x.header = (s.view v).header ∧ x.headerWritten = (s.view v).headerWritten ∧
              (∀ i, Table.read TileRecord.cleared x.tiles i =
                if i = index.toNat then r else Table.read TileRecord.cleared (s.view v).tiles i) ∧
              ∀ i, Table.read false x.written i = if i = index.toNat then true else Table.read false (s.view v).written i)))

/-- A TABLE_WRITE of an overlay target is refused with LOCKED for the active bank and while a swap is pending, and otherwise stores its
record, bytes or span list in the inactive bank, leaving the rest of both banks as it was; the index tests come first, then the form,
then the bank; what is stored is the payload's fields, each brought into its range (R133, R134, R135, R138, R139, R187, R189). -/
def Obligations.OverlayWritesReachTheInactiveBank : Prop :=
  ∀ (s : State) (t : PartTime) (rest : List Message) (tag : Byte) (index : BitVec 16) (payload : List Byte) (bank : BankId),
    let bankByte : Byte := if bank = .a then 0 else 1
    let old := s.overlay.bank bank
    let write (target : Byte) := request 2 tag target bankByte index payload
    let refused (target : Byte) (r : Result) : Host.Outcome State Fault Refusal :=
      .next ((s.taken t rest).answered tag 2 target r [])
    let stored (target : Byte) (x : Bank) (p : List Byte) : Host.Outcome State Fault Refusal :=
      .next (((s.taken t rest).setOverlay (s.overlay.setBank bank x)).answered tag 2 target .ok p)
    let locked := bank = s.overlay.active ∨ s.overlay.swapPending = true
    let badIndex := 15 < u8 payload 13 ∨ 15 < u8 payload 20 ∨ u8 payload 1 = 1 ∧ 7 < u8 payload 2 ∨
      u8 payload 1 = 2 ∧ 3 < u8 payload 2
    let badForm := 4 < u8 payload 0 ∨ 5 < u8 payload 1 ∨ u8 payload 1 = 5 ∧ 7 < u8 payload 2 ∨ 1 < u8 payload 3
    let place (i : Nat) : Int := max (-1024) (min 2047 (s16 payload i))
    (payload.length = 24 → s.Awaits (write 4) rest →
      (63 < index.toNat → exec (.tableWriteOverlayElement t) s = refused 4 .badIndex) ∧
      (∀ r, index.toNat ≤ 63 → readElement payload = .error r → exec (.tableWriteOverlayElement t) s = refused 4 r) ∧
      (index.toNat ≤ 63 → badIndex → exec (.tableWriteOverlayElement t) s = refused 4 .badIndex) ∧
      (index.toNat ≤ 63 → ¬ badIndex → badForm → exec (.tableWriteOverlayElement t) s = refused 4 .malformed) ∧
      (¬ badIndex → ¬ badForm → ∃ e, readElement payload = .ok e) ∧
      ∀ e, index.toNat ≤ 63 → readElement payload = .ok e →
        ([ElementKind.none, .rect, .outline, .sprite, .path][u8 payload 0]? = some e.kind ∧
          ((u8 payload 1 = 0 ∧ e.condition = .always) ∨ (∃ z : ZoneNo, u8 payload 1 = 1 ∧ u8 payload 2 = z.val ∧ e.condition = .zone z) ∨
            (∃ c : Camera, u8 payload 1 = 2 ∧ u8 payload 2 = c.val ∧ e.condition = .cameraFault c) ∨
            (u8 payload 1 = 3 ∧ e.condition = .indicatorNearside) ∨ (u8 payload 1 = 4 ∧ e.condition = .reverse) ∨
            ∃ f : Fin 8, u8 payload 1 = 5 ∧ u8 payload 2 = f.val ∧ e.condition = .body f) ∧
          (e.negate = true ↔ u8 payload 3 = 1) ∧ e.x = place 4 ∧ e.y = place 6 ∧ e.w = min 2047 (u16 payload 8) ∧
          e.h = min 2047 (u16 payload 10) ∧ e.thickness = max 1 (min 16 (u8 payload 12)) ∧ e.palette.val = u8 payload 13 ∧
          e.spriteOffset = min 16383 (u16 payload 14) ∧ e.spriteWidth = max 1 (min 256 (u16 payload 16)) ∧
          e.spriteHeight = max 1 (min 256 (u16 payload 18)) ∧ e.paletteBase.val = u8 payload 20 ∧
          e.viewMask.toNat = u8 payload 21 ∧ e.blinkValue.toNat = u8 payload 22 ∧ e.blinkMask.toNat = u8 payload 23) ∧
        (locked → exec (.tableWriteOverlayElement t) s = refused 4 .locked) ∧
        (¬ locked → ∃ x : Bank, exec (.tableWriteOverlayElement t) s = stored 4 x (encodeElement e) ∧
          (∀ i, x.element i = if i = index.toNat then e else old.element i) ∧
          x.palette = old.palette ∧ x.sprites = old.sprites ∧ x.bands = old.bands)) ∧
    (payload.length = 7 → s.Awaits (write 5) rest →
      ((readPalette payload).colour.y.toNat = min 1023 (u16 payload 0) ∧
        (readPalette payload).colour.cb.toNat = min 1023 (u16 payload 2) ∧
        (readPalette payload).colour.cr.toNat = min 1023 (u16 payload 4) ∧ (readPalette payload).alpha = min 16 (u8 payload 6)) ∧
      (15 < index.toNat → exec (.tableWritePaletteEntry t) s = refused 5 .badIndex) ∧
      (index.toNat ≤ 15 →
        (locked → exec (.tableWritePaletteEntry t) s = refused 5 .locked) ∧
        (¬ locked → ∃ x : Bank, exec (.tableWritePaletteEntry t) s = stored 5 x (encodePalette (readPalette payload)) ∧
          (∀ i, x.paletteEntry i = if i = index.toNat then readPalette payload else old.paletteEntry i) ∧
          x.elements = old.elements ∧ x.sprites = old.sprites ∧ x.bands = old.bands))) ∧
    (1 ≤ payload.length → payload.length ≤ 64 → s.Awaits (write 6) rest →
      (16383 < index.toNat ∨ 16384 < index.toNat + payload.length →
        exec (.tableWriteSpriteChunk t) s = refused 6 .badIndex) ∧
      (index.toNat ≤ 16383 → index.toNat + payload.length ≤ 16384 →
        (locked → exec (.tableWriteSpriteChunk t) s = refused 6 .locked) ∧
        (¬ locked → ∃ x : Bank, exec (.tableWriteSpriteChunk t) s =
            stored 6 x (le16 index.toNat ++ [byteOf payload.length]) ∧
          (∀ i, x.spriteByte i = if index.toNat ≤ i ∧ i < index.toNat + payload.length then payload.getD (i - index.toNat) 0
            else old.spriteByte i) ∧
          x.elements = old.elements ∧ x.palette = old.palette ∧ x.bands = old.bands))) ∧
    (payload.length = 57 → s.Awaits (write 7) rest →
      (30 < index.toNat → exec (.tableWritePathBand t) s = refused 7 .badIndex) ∧
      (index.toNat ≤ 30 → 7 < u8 payload 0 → exec (.tableWritePathBand t) s = refused 7 .malformed) ∧
      (u8 payload 0 ≤ 7 → ∃ l, readBand payload = .ok l) ∧
      ∀ l, index.toNat ≤ 30 → readBand payload = .ok l →
        (l.length = u8 payload 0 ∧ ∀ i, i < u8 payload 0 →
          l[i]? = some ⟨place (1 + 8 * i), min 1024 (u16 payload (3 + 8 * i)), place (5 + 8 * i), place (7 + 8 * i)⟩) ∧
        (locked → exec (.tableWritePathBand t) s = refused 7 .locked) ∧
        (¬ locked → ∃ x : Bank, exec (.tableWritePathBand t) s = stored 7 x (encodeBand l) ∧
          (∀ i, x.band i = if i = index.toNat then l else old.band i) ∧
          x.elements = old.elements ∧ x.palette = old.palette ∧ x.sprites = old.sprites))

/-- TABLE_WRITE of a rule, of the selection settings and of the signal timeouts: each target's own tests in order, then stored, the
payload's fields brought into their ranges (R118, R120, R126, R189). -/
def Obligations.SelectorWritesAreTestedAndStored : Prop :=
  ∀ (s : State) (t : PartTime) (rest : List Message) (tag sub : Byte) (index : BitVec 16) (payload : List Byte),
    (payload.length = 17 → s.Awaits (request 2 tag 8 sub index payload) rest →
      (15 < index.toNat ∨ 7 < u8 payload 15 →
        exec (.tableWriteRule t) s = .next ((s.taken t rest).answered tag 2 8 .badIndex [])) ∧
      (index.toNat ≤ 15 → u8 payload 15 ≤ 7 →
        1 < u8 payload 0 ∨ 1 < u8 payload 16 ∨ 1 < u8 payload 3 ∨ 1 < u8 payload 8 →
        exec (.tableWriteRule t) s = .next ((s.taken t rest).answered tag 2 8 .malformed [])) ∧
      (u8 payload 15 ≤ 7 → u8 payload 0 ≤ 1 → u8 payload 16 ≤ 1 → u8 payload 3 ≤ 1 → u8 payload 8 ≤ 1 →
        ∃ r, readRule payload = .ok r) ∧
      ∀ r, index.toNat ≤ 15 → readRule payload = .ok r →
        ((r.enable = true ↔ u8 payload 0 = 1) ∧ r.gearSet.toNat = u8 payload 1 % 16 ∧ r.indicatorSet.toNat = u8 payload 2 % 16 ∧
          (u8 payload 3 = 0 → r.speed = .any) ∧
          (u8 payload 3 = 1 → r.speed = .range (min 1500 (u16 payload 4)) (min 1500 (u16 payload 6))) ∧
          (u8 payload 8 = 0 → r.steer = .any) ∧
          (u8 payload 8 = 1 →
            r.steer = .range (max (-450) (min 450 (s16 payload 9))) (max (-450) (min 450 (s16 payload 11)))) ∧
          r.bodyValue.toNat = u8 payload 13 ∧ r.bodyMask.toNat = u8 payload 14 ∧ r.target.val = u8 payload 15 ∧
          (r.immediate = true ↔ u8 payload 16 = 1)) ∧
        ∃ rules, exec (.tableWriteRule t) s = .next
            (((s.taken t rest).setSelector { s.selector with rules := rules }).answered tag 2 8 .ok (encodeRule r)) ∧
          ∀ i, Table.read Rule.cleared rules i = if i = index.toNat then r else s.selector.rule i) ∧
    (payload.length = 3 → s.Awaits (request 2 tag 9 sub index payload) rest →
      (7 < u8 payload 0 →
        exec (.tableWriteSelectionSettings t) s = .next ((s.taken t rest).answered tag 2 9 .badIndex [])) ∧
      ∀ v : ViewNo, u8 payload 0 = v.val →
        (s.output.opState = .run → (s.view v).state ≠ .valid →
          exec (.tableWriteSelectionSettings t) s = .next ((s.taken t rest).answered tag 2 9 .badState [])) ∧
        (s.output.opState = .config ∨ (s.view v).state = .valid →
          exec (.tableWriteSelectionSettings t) s = .next (((s.taken t rest).setSelector
            { s.selector with defaultView := v, dwell := min 2000 (u16 payload 1) }).answered tag 2 9 .ok
              (byteOf v.val :: le16 (min 2000 (u16 payload 1)))))) ∧
    (payload.length = 10 → s.Awaits (request 2 tag 11 sub index payload) rest →
      let ms (i : Nat) := max 100 (min 2000 (u16 payload i))
      exec (.tableWriteSignalTimeouts t) s = .next (((s.taken t rest).setSelector
        { s.selector with timeouts := ⟨ms 0, ms 2, ms 4, ms 6, ms 8⟩ }).answered tag 2 11 .ok
          (le16 (ms 0) ++ le16 (ms 2) ++ le16 (ms 4) ++ le16 (ms 6) ++ le16 (ms 8))))

/-- TABLE_WRITE of a zone record stores it and re-arms the zone where it is then active, disarms it where it is not, latching ZONE_FALL
where an ALERT or HOLDING ends; what is stored is the payload's fields brought into their ranges; the counters target is never written
(R153, R154, R156, R174, R189). That the zone keeps its last changed count is the model's reading (DEDUCED, notes/assumptions/13.md). -/
def Obligations.ZoneRecordWriteSettlesActivity : Prop :=
  ∀ (s : State) (t : PartTime) (rest : List Message) (tag sub : Byte) (index : BitVec 16) (payload : List Byte) (z : ZoneNo),
    (payload.length = 13 → s.Awaits (request 2 tag 10 sub index payload) rest →
      (7 < index.toNat → exec (.tableWriteZoneRecord t) s = .next ((s.taken t rest).answered tag 2 10 .badIndex [])) ∧
      (index.toNat = z.val → 1 < u8 payload 0 →
        exec (.tableWriteZoneRecord t) s = .next ((s.taken t rest).answered tag 2 10 .malformed [])) ∧
      (u8 payload 0 ≤ 1 → ∃ r, readZoneRecord payload = .ok r) ∧
      ∀ r, index.toNat = z.val → readZoneRecord payload = .ok r →
        ((r.enable = true ↔ u8 payload 0 = 1) ∧ r.tx0 = min 39 (u8 payload 1) ∧ r.tx1 = min 39 (u8 payload 2) ∧
          r.ty0 = min 24 (u8 payload 3) ∧ r.ty1 = min 24 (u8 payload 4) ∧ r.viewMask.toNat = u8 payload 5 ∧
          r.threshold = min 1023 (u16 payload 6) ∧ r.trigger = max 1 (u8 payload 8) ∧ r.confirm = max 1 (min 15 (u8 payload 9)) ∧
          r.holdTime = min 5000 (u16 payload 10) ∧ r.learnShift = max 1 (min 8 (u8 payload 12))) ∧
        let active := r.enable = true ∧ s.output.opState = .run ∧ ∃ v, s.selector.current = some v ∧ member r.viewMask v.val = true
        let written (st : ZoneState) := (s.taken t rest).setMonitor (s.monitor.setZone z { s.monitor.zone z with record := r, state := st })
        (active → (s.monitor.zone z).state.marked = false →
          exec (.tableWriteZoneRecord t) s = .next ((written (.settling 8)).answered tag 2 10 .ok (encodeZoneRecord r))) ∧
        (active → (s.monitor.zone z).state.marked = true →
          exec (.tableWriteZoneRecord t) s = .next
            (((written (.settling 8)).latched (.zoneFall z)).answered tag 2 10 .ok (encodeZoneRecord r))) ∧
        (¬ active → (s.monitor.zone z).state.marked = false →
          exec (.tableWriteZoneRecord t) s = .next ((written .disarmed).answered tag 2 10 .ok (encodeZoneRecord r))) ∧
        (¬ active → (s.monitor.zone z).state.marked = true →
          exec (.tableWriteZoneRecord t) s = .next
            (((written .disarmed).latched (.zoneFall z)).answered tag 2 10 .ok (encodeZoneRecord r)))) ∧
    (s.Awaits (request 2 tag 12 sub index []) rest →
      exec (.tableWriteCounters t) s = .next
        ((s.taken t rest).answered tag 2 12 (if 4 < index.toNat then .badIndex else .badState) []))

/-! ## Views and the force -/

/-- VIEW_OPEN FRESH and EDIT by the state of the view, its use, and the protection of the default view in RUN; a force on a view
opened FRESH is released and latched; BAD_INDEX comes before an undefined mode's MALFORMED (R75, R77, R78, R85, R87). That the FRESH
row executes and refuses a VIEW_OPEN of undefined mode is the model's reading (DEDUCED, notes/assumptions/5.md). -/
def Obligations.ViewOpenActsByTheViewState : Prop :=
  ∀ (s : State) (t : PartTime) (rest : List Message) (tag target sub : Byte) (index : BitVec 16) (v : ViewNo),
    let refused (r : Result) : Host.Outcome State Fault Refusal := .next ((s.taken t rest).answered tag 4 0 r [])
    let inUse := s.selector.current = some v
    let guarded := v = s.selector.defaultView ∧ s.output.opState = .run
    let opened := (s.taken t rest).setView v { s.view v with state := .loading, headerWritten := false, written := [] }
    (s.Awaits (request 4 tag target sub index [1, byteOf v.val, 0]) rest →
      ((s.view v).state = .loading ∨ (s.view v).state = .valid ∧ (inUse ∨ guarded) →
        exec (.viewOpenFresh t) s = refused .badState) ∧
      ((s.view v).state = .withdrawn → inUse → exec (.viewOpenFresh t) s = refused .busy) ∧
      ((s.view v).state = .empty ∨ (s.view v).state = .valid ∧ ¬ inUse ∧ ¬ guarded ∨ (s.view v).state = .withdrawn ∧ ¬ inUse →
        (s.selector.forced ≠ some v → exec (.viewOpenFresh t) s = .next (opened.answered tag 4 0 .ok [])) ∧
        (s.selector.forced = some v → exec (.viewOpenFresh t) s = .next
          (((opened.setSelector { s.selector with forced := none }).latched .forceReleased).answered tag 4 0 .ok [])))) ∧
    (s.Awaits (request 4 tag target sub index [1, byteOf v.val, 1]) rest →
      ((s.view v).state ≠ .withdrawn → exec (.viewOpenEdit t) s = refused .badState) ∧
      ((s.view v).state = .withdrawn → inUse → exec (.viewOpenEdit t) s = refused .busy) ∧
      ((s.view v).state = .withdrawn → ¬ inUse → exec (.viewOpenEdit t) s =
        .next (((s.taken t rest).setView v { s.view v with state := .loading }).answered tag 4 0 .ok []))) ∧
    ∀ b mode : Byte,
      (7 < b.toNat → s.Awaits (request 4 tag target sub index [1, b, mode]) rest →
        (mode ≠ 1 → exec (.viewOpenFresh t) s = refused .badIndex) ∧
        (mode = 1 → exec (.viewOpenEdit t) s = refused .badIndex)) ∧
      (b.toNat ≤ 7 → 1 < mode.toNat → s.Awaits (request 4 tag target sub index [1, b, mode]) rest →
        exec (.viewOpenFresh t) s = refused .malformed)

/-- VIEW_CLOSE: BAD_STATE outside LOADING; INCOMPLETE with the completeness items; GRID_MISMATCH in RUN; else VALID (R81). -/
def Obligations.ViewCloseNeedsAWholeView : Prop :=
  ∀ (s : State) (t : PartTime) (rest : List Message) (tag target sub : Byte) (index : BitVec 16) (v : ViewNo),
    let x := s.view v
    let tiles := x.header.columns * x.header.rows
    (s.Awaits (request 4 tag target sub index [2, byteOf v.val]) rest →
      (x.state ≠ .loading → exec (.viewClose t) s = .next ((s.taken t rest).answered tag 4 0 .badState [])) ∧
      (x.state = .loading → (x.headerWritten = false ∨ ∃ i, i < tiles ∧ Table.read false x.written i = false) →
        ∃ missing lowest, exec (.viewClose t) s = .next ((s.taken t rest).answered tag 4 0 .incomplete
            (byteOf (if x.headerWritten = true then 1 else 0) :: (le16 missing ++ le16 lowest))) ∧
          missing = ((List.range tiles).filter fun i => Table.read false x.written i = false).length ∧
          (missing = 0 → lowest = 1024) ∧
          (missing ≠ 0 → lowest < tiles ∧ Table.read false x.written lowest = false ∧
            ∀ i, i < lowest → Table.read false x.written i = true)) ∧
      (x.state = .loading → x.headerWritten = true → (∀ i, i < tiles → Table.read false x.written i = true) →
        (s.output.opState = .run → x.fitsGrid s.output.format = false →
          exec (.viewClose t) s = .next ((s.taken t rest).answered tag 4 0 .gridMismatch [])) ∧
        (s.output.opState = .config ∨ x.fitsGrid s.output.format = true →
          exec (.viewClose t) s = .next (((s.taken t rest).setView v { x with state := .valid }).answered tag 4 0 .ok [])))) ∧
    ∀ b : Byte, 7 < b.toNat → s.Awaits (request 4 tag target sub index [2, b]) rest →
      exec (.viewClose t) s = .next ((s.taken t rest).answered tag 4 0 .badIndex [])

/-- VIEW_WITHDRAW takes a VALID view, but not the default view in RUN, to WITHDRAWN with everything else kept, releasing a force on it;
VIEW_RESTORE takes a WITHDRAWN view back, its grid tested in RUN (R83, R84, R85, R87). -/
def Obligations.WithdrawAndRestoreAViewState : Prop :=
  ∀ (s : State) (t : PartTime) (rest : List Message) (tag target sub : Byte) (index : BitVec 16) (v : ViewNo),
    let x := s.view v
    let guarded := v = s.selector.defaultView ∧ s.output.opState = .run
    let withdrawn := (s.taken t rest).setView v { x with state := .withdrawn }
    (s.Awaits (request 4 tag target sub index [3, byteOf v.val]) rest →
      (x.state ≠ .valid ∨ guarded → exec (.viewWithdraw t) s = .next ((s.taken t rest).answered tag 4 0 .badState [])) ∧
      (x.state = .valid → ¬ guarded → s.selector.forced ≠ some v →
        exec (.viewWithdraw t) s = .next (withdrawn.answered tag 4 0 .ok [])) ∧
      (x.state = .valid → ¬ guarded → s.selector.forced = some v → exec (.viewWithdraw t) s = .next
        (((withdrawn.setSelector { s.selector with forced := none }).latched .forceReleased).answered tag 4 0 .ok []))) ∧
    (s.Awaits (request 4 tag target sub index [4, byteOf v.val]) rest →
      (x.state ≠ .withdrawn → exec (.viewRestore t) s = .next ((s.taken t rest).answered tag 4 0 .badState [])) ∧
      (x.state = .withdrawn → s.output.opState = .run → x.fitsGrid s.output.format = false →
        exec (.viewRestore t) s = .next ((s.taken t rest).answered tag 4 0 .gridMismatch [])) ∧
      (x.state = .withdrawn → s.output.opState = .config ∨ x.fitsGrid s.output.format = true →
        exec (.viewRestore t) s = .next (((s.taken t rest).setView v { x with state := .valid }).answered tag 4 0 .ok []))) ∧
    ∀ b : Byte, 7 < b.toNat →
      (s.Awaits (request 4 tag target sub index [3, b]) rest →
        exec (.viewWithdraw t) s = .next ((s.taken t rest).answered tag 4 0 .badIndex [])) ∧
      (s.Awaits (request 4 tag target sub index [4, b]) rest →
        exec (.viewRestore t) s = .next ((s.taken t rest).answered tag 4 0 .badIndex []))

/-- VIEW_FORCE takes a VALID view, in either operating state; RELEASE clears the force and latches nothing (R127, R128). -/
def Obligations.ViewForceNeedsAValidView : Prop :=
  ∀ (s : State) (t : PartTime) (rest : List Message) (tag target sub : Byte) (index : BitVec 16) (v : ViewNo) (b : Byte),
    (s.Awaits (request 7 tag target sub index [byteOf v.val]) rest →
      ((s.view v).state = .valid → exec (.viewForce t) s =
        .next (((s.taken t rest).setSelector { s.selector with forced := some v }).answered tag 7 0 .ok [])) ∧
      ((s.view v).state ≠ .valid → exec (.viewForce t) s = .next ((s.taken t rest).answered tag 7 0 .badState []))) ∧
    (7 < b.toNat → b ≠ 255 → s.Awaits (request 7 tag target sub index [b]) rest →
      exec (.viewForce t) s = .next ((s.taken t rest).answered tag 7 0 .badIndex [])) ∧
    (s.Awaits (request 7 tag target sub index [255]) rest →
      exec (.viewForceRelease t) s =
        .next (((s.taken t rest).setSelector { s.selector with forced := none }).answered tag 7 0 .ok []))

/-- OVERLAY_SWAP in RUN sets the swap-pending flag and is ACCEPTED, or is refused with BUSY while it is set; in CONFIG it exchanges the
banks at once (R141, R142). -/
def Obligations.OverlaySwapActsByTheOperatingState : Prop :=
  ∀ (s : State) (t : PartTime) (rest : List Message) (tag target sub : Byte) (index : BitVec 16),
    s.Awaits (request 5 tag target sub index []) rest →
    (s.output.opState = .run → s.overlay.swapPending = false → exec (.overlaySwap t) s =
      .next (((s.taken t rest).setOverlay { s.overlay with swapPending := true }).answered tag 5 0 .accepted [])) ∧
    (s.output.opState = .run → s.overlay.swapPending = true →
      exec (.overlaySwap t) s = .next ((s.taken t rest).answered tag 5 0 .busy [])) ∧
    (s.output.opState = .config → s.overlay.swapPending = false → exec (.overlaySwap t) s =
      .next (((s.taken t rest).setOverlay { s.overlay with
        active := match s.overlay.active with
          | .a => .b
          | .b => .a }).answered tag 5 0 .ok []))

/-- EVENT_TAKE answers the 43 latches as they stood and clears those its mask names; a mask naming a number above 42 is MALFORMED;
the latches have the numbers of R178's table (R178, R180, R184, R188). -/
def Obligations.EventTakeReadsAndClears : Prop :=
  ((∀ c : Camera, (Latch.camLost c).number = 5 * c.val ∧ (Latch.camHalted c).number = 5 * c.val + 1 ∧
      (Latch.camDegraded c).number = 5 * c.val + 2 ∧ (Latch.camRecovered c).number = 5 * c.val + 3 ∧
      (Latch.camSkipped c).number = 5 * c.val + 4) ∧
    (∀ z : ZoneNo, (Latch.zoneRise z).number = 20 + 2 * z.val ∧ (Latch.zoneFall z).number = 21 + 2 * z.val) ∧
    [Latch.viewSwitched, .forceReleased, .ruleSkipped, .lockFail, .unlocked, .requestDropped, .signalDropped].map Latch.number =
      [36, 37, 38, 39, 40, 41, 42]) ∧
  ∀ (s : State) (t : PartTime) (rest : List Message) (tag target sub : Byte) (index : BitVec 16) (mask : Nat),
    mask < 2 ^ 48 →
    s.Awaits (request 8 tag target sub index ((List.range 6).map fun i => byteOf (mask / 256 ^ i))) rest →
    (mask < 2 ^ 43 → ∃ latches, exec (.eventTake t) s = .next
        (((s.taken t rest).setMgmt { s.mgmt with requests := rest, latches := latches }).answered tag 8 0 .ok
          ((List.range 6).map fun i => byteOf (s.mgmt.latches.toNat / 256 ^ i))) ∧
      ∀ n, n < 43 → member latches n = (member s.mgmt.latches n && !mask.testBit n)) ∧
    (2 ^ 43 ≤ mask → exec (.eventTake t) s = .next ((s.taken t rest).answered tag 8 0 .malformed []))

/-! ## Zones -/

/-- The hold timer's expiry takes a HOLDING zone to QUIET and latches ZONE_FALL, and has no effect before its time or in another state;
and a zone's own step at a frame done moves it by its hits (R157, R161, R162, R163). That an expiry command before its time, or with no
timer running, changes only part time is the model's reading (DEDUCED, notes/assumptions/3.md). -/
def Obligations.ZonesMoveByTheirHits : Prop :=
  (∀ (s : State) (t since : PartTime) (z : ZoneNo),
    ((s.monitor.zone z).state = .holding since → (s.monitor.zone z).record.holdTime * 1000 ≤ (t - since).toNat →
      exec (.holdTimerExpiry t z) s = .next
        (({ s with partTime := t }.setMonitor (s.monitor.setZone z { s.monitor.zone z with state := .quiet })).latched
          (.zoneFall z))) ∧
    ((s.monitor.zone z).state = .holding since → (t - since).toNat < (s.monitor.zone z).record.holdTime * 1000 →
      exec (.holdTimerExpiry t z) s = .next { s with partTime := t }) ∧
    ((∀ t0, (s.monitor.zone z).state ≠ .holding t0) → exec (.holdTimerExpiry t z) s = .next { s with partTime := t })) ∧
  ∀ (st : ZoneState) (r : ZoneRecord) (changed : Nat) (now since : PartTime) (n : Nat),
    (st = .disarmed → st.step r changed now = .disarmed) ∧
    (st = .settling (n + 2) → st.step r changed now = .settling (n + 1)) ∧
    (st = .settling 1 → st.step r changed now = .quiet) ∧
    (r.trigger ≤ changed →
      (st = .quiet → st.step r changed now = if r.confirm ≤ 1 then .alert else .confirming 1) ∧
      (st = .confirming n → n + 1 < r.confirm → st.step r changed now = .confirming (n + 1)) ∧
      (st = .confirming n → n + 1 = r.confirm → st.step r changed now = .alert) ∧
      (st = .alert ∨ st = .holding since → st.step r changed now = .alert)) ∧
    (changed < r.trigger →
      (st = .quiet ∨ st = .confirming n → st.step r changed now = .quiet) ∧
      (st = .alert → st.step r changed now = if r.holdTime = 0 then .quiet else .holding now) ∧
      (st = .holding since → st.step r changed now = .holding since))

/-- The detection step tests every tile against the backgrounds as they stood, moves each zone by its count, and gives each tile of the
grid its new background by the cases of R160: held, loaded, or moved toward the mean without passing it (R155, R158, R159, R160). That a
DISARMED zone keeps its last changed count is the model's reading (DEDUCED, notes/assumptions/13.md). -/
def Obligations.DetectionTestsThenLearns : Prop :=
  ∀ (m : ZoneMonitor) (x : TileResults) (now : PartTime),
    (∀ z, ∃ changed : Nat,
      (m.detect x now).zone z = ⟨(m.zone z).record, (m.zone z).state.step (m.zone z).record changed now,
        if (m.zone z).state = .disarmed then (m.zone z).lastChanged else changed⟩ ∧
      ∃ l : List Nat, l.Nodup ∧ l.length = changed ∧ ∀ tile, tile ∈ l ↔
        (∃ h, (m.zone z).state = .confirming h ∨ (m.zone z).state = .quiet ∨ (m.zone z).state.marked = true) ∧
        tile < x.columns * x.rows ∧
        ((m.zone z).record.tx0 ≤ tile % x.columns ∧ tile % x.columns ≤ (m.zone z).record.tx1) ∧
        ((m.zone z).record.ty0 ≤ tile / x.columns ∧ tile / x.columns ≤ (m.zone z).record.ty1) ∧
        (x.mean tile).excluded = false ∧ (m.background tile).resume = false ∧
        (m.zone z).record.threshold * 64 < (((x.mean tile).mean * 64 : Int) - (m.background tile).level.toNat).natAbs) ∧
    ∀ tile, tile < 1024 →
      (x.columns * x.rows ≤ tile → (m.detect x now).background tile = m.background tile) ∧
      (tile < x.columns * x.rows → (x.mean tile).mean ≤ 1023 →
        ((x.mean tile).excluded = true → (m.detect x now).background tile = ⟨(m.background tile).level, true⟩) ∧
        ((x.mean tile).excluded = false →
          ((m.detect x now).background tile).resume = false ∧
          (((m.background tile).resume = true ∨
              ∃ z, (m.zone z).state = .settling 8 ∧ (m.zone z).record.covers x tile = true) →
            ((m.detect x now).background tile).level.toNat = (x.mean tile).mean * 64) ∧
          ((m.background tile).resume = false → (∀ z, (m.zone z).state = .settling 8 → (m.zone z).record.covers x tile = false) →
            ∃ k, (((m.detect x now).background tile).level.toNat : Int) =
                (m.background tile).level.toNat + (((x.mean tile).mean * 64 : Int) - (m.background tile).level.toNat) / 2 ^ k ∧
              ((∃ z, (m.zone z).record.enable = true ∧ (m.zone z).record.covers x tile = true ∧ (m.zone z).record.learnShift = k ∧
                  ∀ y, (m.zone y).record.enable = true → (m.zone y).record.covers x tile = true →
                    k ≤ (m.zone y).record.learnShift) ∨
                k = 4 ∧ ∀ z, (m.zone z).record.enable = true → (m.zone z).record.covers x tile = false) ∧
              min ((x.mean tile).mean * 64) (m.background tile).level.toNat ≤
                ((m.detect x now).background tile).level.toNat ∧
              ((m.detect x now).background tile).level.toNat ≤
                max ((x.mean tile).mean * 64) (m.background tile).level.toNat)))

/-! ## The selector -/

/-- A rule's conditions hold as R121's table gives, pass-anything settings holding on UNKNOWN and every other failing on it; a signal
becomes EXPIRED when its age exceeds its timeout, each entry of the table by its own (R116, R117, R121). -/
def Obligations.RuleConditionsFailOnUnknown : Prop :=
  (∀ (r : Rule) (x : SignalSnapshot),
    r.passes x = true ↔
      (r.gearSet = 15 ∨ ∃ g, x.gear = some g ∧ member r.gearSet g.code = true) ∧
      (r.indicatorSet = 15 ∨ ∃ i, x.indicator = some i ∧ member r.indicatorSet i.code = true) ∧
      (r.speed = .any ∨ ∃ low high v, r.speed = .range low high ∧ x.speed = some v ∧ low ≤ v ∧ v ≤ high) ∧
      (r.steer = .any ∨ ∃ low high v, r.steer = .range low high ∧ x.steer = some v ∧ low ≤ v ∧ v ≤ high) ∧
      (r.bodyMask = 0 ∨ ∃ b, x.body = some b ∧ ∀ n, n < 8 → member r.bodyMask n = true → member b n = member r.bodyValue n)) ∧
  (∀ (x : SignalTable) (now : PartTime) (o : SignalTimeouts), x.aged now o =
    ⟨x.steer.aged now o.steer, x.speed.aged now o.speed, x.gear.aged now o.gear, x.indicator.aged now o.indicator,
      x.body.aged now o.body⟩) ∧
  ∀ (α : Type) (e : SignalEntry α) (now : PartTime) (ms : Nat),
    (e.status = .current → ms * 1000 < (now - e.arrival).toNat → e.aged now ms = { e with status := .expired }) ∧
    (e.status ≠ .current ∨ (now - e.arrival).toNat ≤ ms * 1000 → e.aged now ms = e) ∧
    (e.status = .current → e.reading = some e.value) ∧ (e.status ≠ .current → e.reading = none)

/-- The candidate is the target of the first enabled rule whose conditions hold and whose target is VALID, else the default view; a
rule whose conditions hold before it and whose target is not VALID is reported skipped (R122). -/
def Obligations.CandidateIsTheFirstMatch : Prop :=
  ∀ (valid : ViewNo → Bool) (x : SignalSnapshot) (d : ViewNo) (rules : List Rule),
    let holds (r : Rule) : Prop := r.enable = true ∧ r.passes x = true
    let found := findCandidate valid x d rules
    (∀ before r rest, rules = before ++ r :: rest → holds r → valid r.target = true →
      (∀ q ∈ before, holds q → valid q.target = false) →
      found.view = r.target ∧ found.immediate = r.immediate ∧
      (found.skipped = true ↔ ∃ q ∈ before, holds q)) ∧
    ((∀ q ∈ rules, holds q → valid q.target = false) →
      found.view = d ∧ found.immediate = false ∧ (found.skipped = true ↔ ∃ q ∈ rules, holds q))

/-- The current view is fixed by the cases of R123 and the dwell test of R124: a force; at once where there is no VALID current view;
unchanged where the candidate is the current view; at once for an immediate rule; else after an unbroken dwell. -/
def Obligations.CurrentViewIsFixedByTheCases : Prop :=
  ∀ (x : Selector) (now : PartTime) (valid : ViewNo → Bool) (snap : SignalSnapshot),
    let found := findCandidate valid snap x.defaultView x.ruleList
    let after := Selector.choose x now valid snap
    let at_once : Selector := { x with current := some found.view, candidate := none }
    (∀ f, x.forced = some f → after = ({ x with current := some f, candidate := none }, false)) ∧
    (x.forced = none → after.2 = found.skipped ∧
      (x.current = none → after.1 = at_once) ∧
      ∀ v, x.current = some v →
        (valid v = false → after.1 = at_once) ∧
        (valid v = true → found.view = v → after.1 = { x with candidate := none }) ∧
        (valid v = true → found.view ≠ v → found.immediate = true → after.1 = at_once) ∧
        (valid v = true → found.view ≠ v → found.immediate = false →
          (∀ since, x.candidate = some ⟨found.view, since⟩ →
            (x.dwell * 1000 ≤ (now - since).toNat → after.1 = at_once) ∧
            ((now - since).toNat < x.dwell * 1000 → after.1 = x)) ∧
          ((∀ since, x.candidate ≠ some ⟨found.view, since⟩) →
            (x.dwell = 0 → after.1 = at_once) ∧
            (0 < x.dwell → after.1 = { x with candidate := some ⟨found.view, now⟩ }))))

/-! ## The compositor -/

/-- Interpolated coordinates and weights are the rounded bilinear mean of their four corners by R96's formula; they lie between the
least and greatest of their four corners, equal the top-left corner at (0, 0), and a weight lies in 0 to 256; the accumulator stays
below 2^26 (R96, R97). -/
def Obligations.MeshStaysWithinItsCorners : Prop :=
  ∀ (c : Corners Nat) (i j : Nat), i < 32 → j < 32 →
    mesh c i j =
      (c.c00 * (32 - i) * (32 - j) + c.c10 * i * (32 - j) + c.c01 * (32 - i) * j + c.c11 * i * j + 512) / 1024 ∧
    min (min c.c00 c.c10) (min c.c01 c.c11) ≤ mesh c i j ∧ mesh c i j ≤ max (max c.c00 c.c10) (max c.c01 c.c11) ∧
    mesh c 0 0 = c.c00 ∧
    (c.c00 ≤ 256 → c.c10 ≤ 256 → c.c01 ≤ 256 → c.c11 ≤ 256 → mesh c i j ≤ 256) ∧
    (c.c00 = c.c10 → c.c00 = c.c01 → c.c00 = c.c11 → mesh c i j = c.c00) ∧
    (c.c00 ≤ 32767 → c.c10 ≤ 32767 → c.c01 ≤ 32767 → c.c11 ≤ 32767 →
      c.c00 * (32 - i) * (32 - j) + c.c10 * i * (32 - j) + c.c01 * (32 - i) * j + c.c11 * i * j + 512 ≤ 33553920)

/-- A sample component is the rounded weighted mean of the four neighbours, clamped to columns below width and rows below the valid line
count; it lies in 0 to 1023, and equals the first neighbour when both fractions are 0 (R99, R100, R101). A matched luma lies in 0 to
1023, and before saturation in −320 to 2235; gain 512 with offset 0 changes nothing, 64 is the fixed point of the gain (R102). -/
def Obligations.SamplesAreMeansAndMatched : Prop :=
  (∀ (pool : Pool) (shot : Shot) (p : Coord), 0 < shot.width → 0 < shot.validLines →
    let px (column row : Nat) : Pixel :=
      pool.pixel shot.slot (if column < shot.width then column else shot.width - 1)
        (if row < shot.validLines then row else shot.validLines - 1)
    let ui := p.u / 16
    let vi := p.v / 16
    let fu := p.u % 16
    let fv := p.v % 16
    let mean (part : Pixel → BitVec 10) : Nat :=
      ((part (px ui vi)).toNat * ((16 - fu) * (16 - fv)) + (part (px (ui + 1) vi)).toNat * (fu * (16 - fv)) +
        (part (px ui (vi + 1))).toNat * ((16 - fu) * fv) + (part (px (ui + 1) (vi + 1))).toNat * (fu * fv) + 128) / 256
    let s := sampleAt pool shot p
    s = ⟨mean Pixel.y, mean Pixel.cb, mean Pixel.cr⟩ ∧ s.y ≤ 1023 ∧ s.cb ≤ 1023 ∧ s.cr ≤ 1023 ∧
    (fu = 0 → fv = 0 → s = ⟨(px ui vi).y.toNat, (px ui vi).cb.toNat, (px ui vi).cr.toNat⟩)) ∧
  ∀ (y gain : Nat) (offset : Int), y ≤ 1023 → gain ≤ 1023 → -256 ≤ offset → offset ≤ 255 →
    let raw : Int := (((y : Int) - 64) * gain + 256) / 512 + 64 + offset
    ((-320) ≤ raw ∧ raw ≤ 2235) ∧
    (raw < 0 → matchLuma y gain offset = 0) ∧ (1023 < raw → matchLuma y gain offset = 1023) ∧
    (0 ≤ raw → raw ≤ 1023 → (matchLuma y gain offset : Int) = raw) ∧
    matchLuma y 512 0 = y ∧
    (0 ≤ 64 + offset → (matchLuma 64 gain offset : Int) = 64 + offset ∧ (matchLuma y 0 offset : Int) = 64 + offset)

/-- The composed pixel: no sample from a camera NONE, not usable, or outside its field, else its sample matched with its camera's gain
and offset; the rounded blend of two samples, between them; one sample alone; the fault fill, hatched by output position, where a named
camera is not usable; else the background (R98, R102 to R107). -/
def Obligations.CombinationTakesTheFirstRow : Prop :=
  ∀ (sc : Scene) (r : TileRecord) (x y w : Nat) (a b : Sample), w ≤ 256 →
    (∀ (corners : Corners Coord) (i j : Nat), sourceSample sc.pool none corners i j = none ∧
      ∀ c, (sc.pool.snapshot.get c = none → sourceSample sc.pool (some c) corners i j = none) ∧
        ∀ shot, sc.pool.snapshot.get c = some shot →
          let p : Coord := ⟨mesh corners.us i j, mesh corners.vs i j⟩
          let raw := sampleAt sc.pool shot p
          (p.u < shot.width * 16 → p.v < shot.height * 16 → sourceSample sc.pool (some c) corners i j =
            some ⟨matchLuma raw.y shot.gain shot.offset, raw.cb, raw.cr⟩) ∧
          (shot.width * 16 ≤ p.u ∨ shot.height * 16 ≤ p.v → sourceSample sc.pool (some c) corners i j = none)) ∧
    (let tile := sc.tile (x / 32) (y / 32)
     composePixel sc x y = combine sc tile x y (mesh tile.weights (x % 32) (y % 32))
       (sourceSample sc.pool tile.primary tile.primaryCorners (x % 32) (y % 32))
       (sourceSample sc.pool tile.secondary tile.secondaryCorners (x % 32) (y % 32))) ∧
    combine sc r x y w (some a) (some b) =
      ⟨(a.y * w + b.y * (256 - w) + 128) / 256, (a.cb * w + b.cb * (256 - w) + 128) / 256,
        (a.cr * w + b.cr * (256 - w) + 128) / 256⟩ ∧
    (min a.y b.y ≤ (combine sc r x y w (some a) (some b)).y ∧ (combine sc r x y w (some a) (some b)).y ≤ max a.y b.y) ∧
    (min a.cb b.cb ≤ (combine sc r x y w (some a) (some b)).cb ∧ (combine sc r x y w (some a) (some b)).cb ≤ max a.cb b.cb) ∧
    (min a.cr b.cr ≤ (combine sc r x y w (some a) (some b)).cr ∧ (combine sc r x y w (some a) (some b)).cr ≤ max a.cr b.cr) ∧
    combine sc r x y 256 (some a) (some b) = a ∧ combine sc r x y 0 (some a) (some b) = b ∧
    combine sc r x y w (some a) none = a ∧ combine sc r x y w none (some b) = b ∧
    ((∃ c, (r.primary = some c ∨ r.secondary = some c) ∧ sc.pool.snapshot.get c = none) →
      combine sc r x y w none none =
        Pixel.toSample (if sc.header.hatch = true ∧ (x + y) / 8 % 2 = 1 then sc.header.background else sc.header.fault)) ∧
    ((∀ c, r.primary = some c ∨ r.secondary = some c → sc.pool.snapshot.get c ≠ none) →
      combine sc r x y w none none = Pixel.toSample sc.header.background)

/-! ## The overlay engine -/

/-- The overlaid pixel: the elements counting toward the line, at most the first 16, applied lowest number first, each component
between the pixel and the colour; what no applied element covers is unchanged; each kind covers the pixels of R137 in the palette
entry it names there and counts toward the rows R137 gives it; the path band of a STEER reading lies in 0 to 30 (R134, R135, R137,
R147, R148, R149). -/
def Obligations.OverlayDrawsInListOrder : Prop :=
  (∀ (bank : Bank) (list : List DrawItem) (px py : Nat) (p : Sample),
    (∃ left, (list.filter fun d => inExtent bank d py) = appliedOn bank list py ++ left ∧
      (appliedOn bank list py).length ≤ 16 ∧ (left ≠ [] → (appliedOn bank list py).length = 16)) ∧
    ((∀ d ∈ appliedOn bank list py, coverage bank d px py = none) → overlayPixel bank list px py p = p) ∧
    (∀ l d, appliedOn bank list py = l ++ [d] →
      (∀ i, coverage bank d px py = some i →
        overlayPixel bank list px py p = mix (bank.paletteEntry i) (l.foldl (applyItem bank px py) p)) ∧
      (coverage bank d px py = none → overlayPixel bank list px py p = l.foldl (applyItem bank px py) p)) ∧
    (p.y ≤ 1023 → p.cb ≤ 1023 → p.cr ≤ 1023 → (∀ i, (bank.paletteEntry i).alpha ≤ 16) →
      (overlayPixel bank list px py p).y ≤ 1023 ∧ (overlayPixel bank list px py p).cb ≤ 1023 ∧
        (overlayPixel bank list px py p).cr ≤ 1023)) ∧
  (∀ e p alpha : Nat, alpha ≤ 16 →
    mixComponent e p alpha = (e * alpha + p * (16 - alpha) + 8) / 16 ∧ mixComponent e p 16 = e ∧ mixComponent e p 0 = p ∧
    min e p ≤ mixComponent e p alpha ∧ mixComponent e p alpha ≤ max e p) ∧
  (∀ (bank : Bank) (d : DrawItem) (px py : Int),
    let e := bank.element d.element
    let inside := e.x ≤ px ∧ px < e.x + e.w ∧ e.y ≤ py ∧ py < e.y + e.h
    let sprite := e.x ≤ px ∧ px < e.x + e.spriteWidth ∧ e.y ≤ py ∧ py < e.y + e.spriteHeight
    let n := e.spriteOffset * 4 + (py - e.y).toNat * e.spriteWidth + (px - e.x).toNat
    let v := (bank.spriteByte (n / 4)).toNat / 4 ^ (n % 4) % 4
    (e.kind = .rect → (coverage bank d px py = some e.palette.val ↔ inside)) ∧
    (e.kind = .outline → (coverage bank d px py = some e.palette.val ↔ inside ∧
      (px - e.x < e.thickness ∨ e.x + e.w - 1 - px < e.thickness ∨ py - e.y < e.thickness ∨ e.y + e.h - 1 - py < e.thickness))) ∧
    (e.kind = .path → (coverage bank d px py = some e.palette.val ↔ ∃ sp ∈ bank.band d.band,
      e.y + sp.startRow ≤ py ∧ py < e.y + sp.startRow + sp.rowCount ∧ e.x + sp.leftX ≤ px ∧ px ≤ e.x + sp.rightX)) ∧
    (e.kind = .sprite → ∀ i, (coverage bank d px py = some i ↔
      sprite ∧ n < 65536 ∧ v ≠ 0 ∧ i = (e.paletteBase.val + v - 1) % 16)) ∧
    (e.kind = .none → coverage bank d px py = none ∧ inExtent bank d py = false) ∧
    (e.kind = .rect ∨ e.kind = .outline → (inExtent bank d py = true ↔ e.y ≤ py ∧ py < e.y + e.h)) ∧
    (e.kind = .sprite → (inExtent bank d py = true ↔ e.y ≤ py ∧ py < e.y + e.spriteHeight)) ∧
    (e.kind = .path → (inExtent bank d py = true ↔
      ∃ sp ∈ bank.band d.band, e.y + sp.startRow ≤ py ∧ py < e.y + sp.startRow + sp.rowCount))) ∧
  ∀ steer : Int, -450 ≤ steer → steer ≤ 450 →
    bandOf steer ≤ 30 ∧ 30 * (bandOf steer : Int) ≤ steer + 465 ∧ steer + 465 < 30 * (bandOf steer : Int) + 30

/-- An element is in the draw list exactly when it is visible, in list order, a PATH element only with STEER known and with the band of
that reading; a condition on a signal that reads UNKNOWN is false before negation (R145, R146, R147). -/
def Obligations.DrawListHoldsTheVisible : Prop :=
  ∀ (x : DrawInputs) (bank : Bank),
    ((drawListOf x bank).map DrawItem.element).Pairwise (· < ·) ∧
    (∀ n band, (⟨n, band⟩ : DrawItem) ∈ drawListOf x bank ↔
      n < 64 ∧ (bank.element n).kind ≠ .none ∧
      (∃ v, x.view = some v ∧ member (bank.element n).viewMask v.val = true) ∧
      (((bank.element n).negate = false ∧ (bank.element n).condition.holds x = true) ∨
        ((bank.element n).negate = true ∧ (bank.element n).condition.holds x = false)) ∧
      x.frameCounter.setWidth 8 &&& (bank.element n).blinkMask = (bank.element n).blinkValue ∧
      (((bank.element n).kind ≠ .path ∧ band = 0) ∨
        ∃ steer, (bank.element n).kind = .path ∧ x.signals.steer = some steer ∧ band = bandOf steer)) ∧
    Condition.holds x .always = true ∧ (∀ z, Condition.holds x (.zone z) = x.zoneMarked z) ∧
    (∀ c, Condition.holds x (.cameraFault c) = !x.usable c) ∧
    (Condition.holds x .indicatorNearside = true ↔ x.signals.indicator = some .nearside) ∧
    (Condition.holds x .reverse = true ↔ x.signals.gear = some .reverse) ∧
    ∀ f, Condition.holds x (.body f) = true ↔ ∃ b, x.signals.body = some b ∧ member b f.val = true

/-! ## Encodings -/

/-- Decoding the bytes of a control message gives the message back, for every message whose length is that of its payload; and a table
record in range reads back from its own layout as it was, the layout being as long as its table gives (R118, R126, R183, R186, R187,
R189). -/
def Obligations.DecodingReversesEncoding : Prop :=
  (∀ m : Message, m.lengthAgrees = true → decodeMessage (encodeMessage m) = some m) ∧
  (∀ bytes m, decodeMessage bytes = some m → encodeMessage m = bytes) ∧
  (∀ r : CameraRecord, r.InRange → readCameraRecord (encodeCameraRecord r) = .ok r) ∧
  (∀ h : ViewHeader, h.InRange → readViewHeader (encodeViewHeader h) = .ok h) ∧
  (∀ r : TileRecord, r.InRange → readTile (encodeTile r) = .ok r) ∧
  (∀ e : Element, e.InRange → readElement (encodeElement e) = .ok e) ∧
  (∀ e : PaletteEntry, e.alpha ≤ 16 → readPalette (encodePalette e) = e) ∧
  (∀ l : List Span, l.length ≤ 7 → (∀ x ∈ l, x.InRange) → readBand (encodeBand l) = .ok l) ∧
  (∀ r : Rule, r.InRange → readRule (encodeRule r) = .ok r) ∧
  (∀ r : ZoneRecord, r.InRange → readZoneRecord (encodeZoneRecord r) = .ok r) ∧
  (∀ r : SignalTimeouts, TimeoutInRange r.steer → TimeoutInRange r.speed → TimeoutInRange r.gear → TimeoutInRange r.indicator →
    TimeoutInRange r.body → readTimeouts (encodeTimeouts r) = r) ∧
  (∀ (v : ViewNo) (dwell : Nat), dwell ≤ 2000 →
    u8 (encodeSettings v dwell) 0 = v.val ∧ u16 (encodeSettings v dwell) 1 = dwell) ∧
  (∀ (c : CameraRecord) (h : ViewHeader) (i : TileRecord) (e : Element) (p : PaletteEntry), c.slotList.length ≤ 4 →
    (encodeCameraRecord c).length = 21 ∧ (encodeViewHeader h).length = 17 ∧ (encodeTile i).length = 42 ∧
      (encodeElement e).length = 24 ∧ (encodePalette p).length = 7) ∧
  ∀ (l : List Span) (r : Rule) (v : ViewNo) (dwell : Nat) (z : ZoneRecord) (o : SignalTimeouts), l.length ≤ 7 →
    (encodeBand l).length = 57 ∧ (encodeRule r).length = 17 ∧ (encodeSettings v dwell).length = 3 ∧
      (encodeZoneRecord z).length = 13 ∧ (encodeTimeouts o).length = 10

/-! ## Invariants every step keeps -/

/-- Every channel's state, reason set, loss timer, filling frame and cadence tracker agree after every step from a state in which they
do (R14, R18, R19, R20, R23). -/
def Obligations.StepKeepsChannelsInAgreement : Prop :=
  ∀ s s' : State, s.ChannelsAgree → step s = .next s' → s'.ChannelsAgree

/-- The operating state, the clock, the views, the force, the zones, the swap-pending flag and the compositor agree after every step
from a state in which they do (R55, R60, R68, R75, R76, R85, R87, R88, R142, R156). -/
def Obligations.StepKeepsThePartCoherent : Prop :=
  ∀ s s' : State, s.Coherent → step s = .next s' → s'.Coherent

/-- The slots, their owners, the ready lists and the filling frames agree after every step from a coherent state in which they do, so no
camera has two FILLING or two HELD slots; no step makes a HELD slot FILLING; and, the records in range, no step writes a pixel of a slot
that is not FILLING, a HELD one among them (R5, R23, R29, R30, R31, R32, R34, R35, R38, R41). -/
def Obligations.StepKeepsTheSlotsInAgreement : Prop :=
  ∀ s s' : State, s.Coherent → s.ChannelsAgree → s.SlotsAgree → step s = .next s' →
    s'.SlotsAgree ∧
    (∀ k c f o, s.pool.slot k = .held c f o → ∀ d, s'.pool.slot k ≠ .filling d) ∧
    (s.RecordsInRange → ∀ k, (∀ c, s.pool.slot k ≠ .filling c) → ∀ column l, l < 1080 →
      s'.pool.pixel k column l = s.pool.pixel k column l)

/-- The request queue and the reply queue stay within 16 entries, with room kept for the reply of a FORMAT attempt (R60, R169, R170). -/
def Obligations.StepKeepsTheQueuesBounded : Prop :=
  ∀ s s' : State, s.QueuesBounded → step s = .next s' → s'.QueuesBounded

/-- Every stored record stays within its field ranges, because a write is clamped before it is stored (R4, R72, R73, R118, R120, R126,
R133, R139, R154); with that every table stays in canonical form, the sprite areas and the DRAM among them (the model's own form of
memory, which makes equal contents equal data). -/
def Obligations.StepKeepsRecordsAndTables : Prop :=
  ∀ s s' : State, s.RecordsInRange → step s = .next s' →
    s'.RecordsInRange ∧
    (s.canonical = true → s.pool.canonical = true → s'.canonical = true ∧ s'.pool.canonical = true)

/-- The state after reset meets every invariant above. -/
def Obligations.ResetMeetsTheInvariants : Prop :=
  State.reset.ChannelsAgree ∧ State.reset.Coherent ∧ State.reset.SlotsAgree ∧ State.reset.QueuesBounded ∧
    State.reset.RecordsInRange ∧ State.reset.canonical = true ∧ State.reset.pool.canonical = true
end

