-- ==== Sys2Proof/Laws/State.lean ====
section
/-!
SUPPORT. One lemma for each field under each update of the state, so that no proof unfolds an update, and the laws of the four-camera
record.
-/
namespace Sys2Proof.Machine

/-! ## The four cameras -/

@[simp] theorem PerCamera.get_set_same {α : Type} (p : PerCamera α) (c : Camera) (x : α) : (p.set c x).get c = x := by
  match c with
  | 0 => rfl
  | 1 => rfl
  | 2 => rfl
  | 3 => rfl

theorem PerCamera.get_set_other {α : Type} (p : PerCamera α) {c d : Camera} (x : α) (h : d ≠ c) : (p.set c x).get d = p.get d := by
  match c, d with
  | 0, 0 => exact absurd rfl h
  | 0, 1 => rfl
  | 0, 2 => rfl
  | 0, 3 => rfl
  | 1, 0 => rfl
  | 1, 1 => exact absurd rfl h
  | 1, 2 => rfl
  | 1, 3 => rfl
  | 2, 0 => rfl
  | 2, 1 => rfl
  | 2, 2 => exact absurd rfl h
  | 2, 3 => rfl
  | 3, 0 => rfl
  | 3, 1 => rfl
  | 3, 2 => rfl
  | 3, 3 => exact absurd rfl h

@[simp] theorem PerCamera.set_set {α : Type} (p : PerCamera α) (c : Camera) (x y : α) : (p.set c x).set c y = p.set c y := by
  match c with
  | 0 => rfl
  | 1 => rfl
  | 2 => rfl
  | 3 => rfl

@[simp] theorem PerCamera.set_get {α : Type} (p : PerCamera α) (c : Camera) : p.set c (p.get c) = p := by
  match c with
  | 0 => rfl
  | 1 => rfl
  | 2 => rfl
  | 3 => rfl

@[simp] theorem PerCamera.get_build {α : Type} (f : Camera → α) (c : Camera) : (PerCamera.build f).get c = f c := by
  match c with
  | 0 => rfl
  | 1 => rfl
  | 2 => rfl
  | 3 => rfl

/-! ## Channels -/

@[simp] theorem State.channel_setChannel_same (s : State) (c : Camera) (x : Channel) : (s.setChannel c x).channel c = x :=
  PerCamera.get_set_same s.channels c x

theorem State.channel_setChannel_other (s : State) {c d : Camera} (x : Channel) (h : d ≠ c) :
    (s.setChannel c x).channel d = s.channel d :=
  PerCamera.get_set_other s.channels x h

@[simp] theorem State.setChannel_setChannel (s : State) (c : Camera) (x y : Channel) :
    (s.setChannel c x).setChannel c y = s.setChannel c y := by
  simp [State.setChannel]

/-! ## atTime -/

@[simp] theorem State.atTime_pending (s : State) (t : PartTime) : (s.atTime t).pending = s.pending := rfl
@[simp] theorem State.atTime_partTime (s : State) (t : PartTime) : (s.atTime t).partTime = t := rfl
@[simp] theorem State.atTime_channels (s : State) (t : PartTime) : (s.atTime t).channels = s.channels := rfl
@[simp] theorem State.atTime_pool (s : State) (t : PartTime) : (s.atTime t).pool = s.pool := rfl
@[simp] theorem State.atTime_views (s : State) (t : PartTime) : (s.atTime t).views = s.views := rfl
@[simp] theorem State.atTime_selector (s : State) (t : PartTime) : (s.atTime t).selector = s.selector := rfl
@[simp] theorem State.atTime_compositor (s : State) (t : PartTime) : (s.atTime t).compositor = s.compositor := rfl
@[simp] theorem State.atTime_overlay (s : State) (t : PartTime) : (s.atTime t).overlay = s.overlay := rfl
@[simp] theorem State.atTime_monitor (s : State) (t : PartTime) : (s.atTime t).monitor = s.monitor := rfl
@[simp] theorem State.atTime_output (s : State) (t : PartTime) : (s.atTime t).output = s.output := rfl
@[simp] theorem State.atTime_mgmt (s : State) (t : PartTime) : (s.atTime t).mgmt = s.mgmt := rfl
@[simp] theorem State.atTime_port (s : State) (t : PartTime) : (s.atTime t).port = s.port := rfl
@[simp] theorem State.atTime_channel (s : State) (t : PartTime) (d : Camera) : (s.atTime t).channel d = s.channel d := rfl
@[simp] theorem State.atTime_view (s : State) (t : PartTime) (w : ViewNo) : (s.atTime t).view w = s.view w := rfl
@[simp] theorem State.atTime_isRun (s : State) (t : PartTime) : (s.atTime t).isRun = s.isRun := rfl

/-! ## setChannel -/

@[simp] theorem State.setChannel_pending (s : State) (c : Camera) (x : Channel) : (s.setChannel c x).pending = s.pending := rfl
@[simp] theorem State.setChannel_partTime (s : State) (c : Camera) (x : Channel) : (s.setChannel c x).partTime = s.partTime := rfl
@[simp] theorem State.setChannel_channels (s : State) (c : Camera) (x : Channel) : (s.setChannel c x).channels = s.channels.set c x := rfl
@[simp] theorem State.setChannel_pool (s : State) (c : Camera) (x : Channel) : (s.setChannel c x).pool = s.pool := rfl
@[simp] theorem State.setChannel_views (s : State) (c : Camera) (x : Channel) : (s.setChannel c x).views = s.views := rfl
@[simp] theorem State.setChannel_selector (s : State) (c : Camera) (x : Channel) : (s.setChannel c x).selector = s.selector := rfl
@[simp] theorem State.setChannel_compositor (s : State) (c : Camera) (x : Channel) : (s.setChannel c x).compositor = s.compositor := rfl
@[simp] theorem State.setChannel_overlay (s : State) (c : Camera) (x : Channel) : (s.setChannel c x).overlay = s.overlay := rfl
@[simp] theorem State.setChannel_monitor (s : State) (c : Camera) (x : Channel) : (s.setChannel c x).monitor = s.monitor := rfl
@[simp] theorem State.setChannel_output (s : State) (c : Camera) (x : Channel) : (s.setChannel c x).output = s.output := rfl
@[simp] theorem State.setChannel_mgmt (s : State) (c : Camera) (x : Channel) : (s.setChannel c x).mgmt = s.mgmt := rfl
@[simp] theorem State.setChannel_port (s : State) (c : Camera) (x : Channel) : (s.setChannel c x).port = s.port := rfl
@[simp] theorem State.setChannel_view (s : State) (c : Camera) (x : Channel) (w : ViewNo) : (s.setChannel c x).view w = s.view w := rfl
@[simp] theorem State.setChannel_isRun (s : State) (c : Camera) (x : Channel) : (s.setChannel c x).isRun = s.isRun := rfl

/-! ## setPool -/

@[simp] theorem State.setPool_pending (s : State) (x : Pool) : (s.setPool x).pending = s.pending := rfl
@[simp] theorem State.setPool_partTime (s : State) (x : Pool) : (s.setPool x).partTime = s.partTime := rfl
@[simp] theorem State.setPool_channels (s : State) (x : Pool) : (s.setPool x).channels = s.channels := rfl
@[simp] theorem State.setPool_pool (s : State) (x : Pool) : (s.setPool x).pool = x := rfl
@[simp] theorem State.setPool_views (s : State) (x : Pool) : (s.setPool x).views = s.views := rfl
@[simp] theorem State.setPool_selector (s : State) (x : Pool) : (s.setPool x).selector = s.selector := rfl
@[simp] theorem State.setPool_compositor (s : State) (x : Pool) : (s.setPool x).compositor = s.compositor := rfl
@[simp] theorem State.setPool_overlay (s : State) (x : Pool) : (s.setPool x).overlay = s.overlay := rfl
@[simp] theorem State.setPool_monitor (s : State) (x : Pool) : (s.setPool x).monitor = s.monitor := rfl
@[simp] theorem State.setPool_output (s : State) (x : Pool) : (s.setPool x).output = s.output := rfl
@[simp] theorem State.setPool_mgmt (s : State) (x : Pool) : (s.setPool x).mgmt = s.mgmt := rfl
@[simp] theorem State.setPool_port (s : State) (x : Pool) : (s.setPool x).port = s.port := rfl
@[simp] theorem State.setPool_channel (s : State) (x : Pool) (d : Camera) : (s.setPool x).channel d = s.channel d := rfl
@[simp] theorem State.setPool_view (s : State) (x : Pool) (w : ViewNo) : (s.setPool x).view w = s.view w := rfl
@[simp] theorem State.setPool_isRun (s : State) (x : Pool) : (s.setPool x).isRun = s.isRun := rfl

/-! ## setSelector -/

@[simp] theorem State.setSelector_pending (s : State) (x : Selector) : (s.setSelector x).pending = s.pending := rfl
@[simp] theorem State.setSelector_partTime (s : State) (x : Selector) : (s.setSelector x).partTime = s.partTime := rfl
@[simp] theorem State.setSelector_channels (s : State) (x : Selector) : (s.setSelector x).channels = s.channels := rfl
@[simp] theorem State.setSelector_pool (s : State) (x : Selector) : (s.setSelector x).pool = s.pool := rfl
@[simp] theorem State.setSelector_views (s : State) (x : Selector) : (s.setSelector x).views = s.views := rfl
@[simp] theorem State.setSelector_selector (s : State) (x : Selector) : (s.setSelector x).selector = x := rfl
@[simp] theorem State.setSelector_compositor (s : State) (x : Selector) : (s.setSelector x).compositor = s.compositor := rfl
@[simp] theorem State.setSelector_overlay (s : State) (x : Selector) : (s.setSelector x).overlay = s.overlay := rfl
@[simp] theorem State.setSelector_monitor (s : State) (x : Selector) : (s.setSelector x).monitor = s.monitor := rfl
@[simp] theorem State.setSelector_output (s : State) (x : Selector) : (s.setSelector x).output = s.output := rfl
@[simp] theorem State.setSelector_mgmt (s : State) (x : Selector) : (s.setSelector x).mgmt = s.mgmt := rfl
@[simp] theorem State.setSelector_port (s : State) (x : Selector) : (s.setSelector x).port = s.port := rfl
@[simp] theorem State.setSelector_channel (s : State) (x : Selector) (d : Camera) : (s.setSelector x).channel d = s.channel d := rfl
@[simp] theorem State.setSelector_view (s : State) (x : Selector) (w : ViewNo) : (s.setSelector x).view w = s.view w := rfl
@[simp] theorem State.setSelector_isRun (s : State) (x : Selector) : (s.setSelector x).isRun = s.isRun := rfl

/-! ## setCompositor -/

@[simp] theorem State.setCompositor_pending (s : State) (x : Compositor) : (s.setCompositor x).pending = s.pending := rfl
@[simp] theorem State.setCompositor_partTime (s : State) (x : Compositor) : (s.setCompositor x).partTime = s.partTime := rfl
@[simp] theorem State.setCompositor_channels (s : State) (x : Compositor) : (s.setCompositor x).channels = s.channels := rfl
@[simp] theorem State.setCompositor_pool (s : State) (x : Compositor) : (s.setCompositor x).pool = s.pool := rfl
@[simp] theorem State.setCompositor_views (s : State) (x : Compositor) : (s.setCompositor x).views = s.views := rfl
@[simp] theorem State.setCompositor_selector (s : State) (x : Compositor) : (s.setCompositor x).selector = s.selector := rfl
@[simp] theorem State.setCompositor_compositor (s : State) (x : Compositor) : (s.setCompositor x).compositor = x := rfl
@[simp] theorem State.setCompositor_overlay (s : State) (x : Compositor) : (s.setCompositor x).overlay = s.overlay := rfl
@[simp] theorem State.setCompositor_monitor (s : State) (x : Compositor) : (s.setCompositor x).monitor = s.monitor := rfl
@[simp] theorem State.setCompositor_output (s : State) (x : Compositor) : (s.setCompositor x).output = s.output := rfl
@[simp] theorem State.setCompositor_mgmt (s : State) (x : Compositor) : (s.setCompositor x).mgmt = s.mgmt := rfl
@[simp] theorem State.setCompositor_port (s : State) (x : Compositor) : (s.setCompositor x).port = s.port := rfl
@[simp] theorem State.setCompositor_channel (s : State) (x : Compositor) (d : Camera) : (s.setCompositor x).channel d = s.channel d := rfl
@[simp] theorem State.setCompositor_view (s : State) (x : Compositor) (w : ViewNo) : (s.setCompositor x).view w = s.view w := rfl
@[simp] theorem State.setCompositor_isRun (s : State) (x : Compositor) : (s.setCompositor x).isRun = s.isRun := rfl

/-! ## setOverlay -/

@[simp] theorem State.setOverlay_pending (s : State) (x : Overlay) : (s.setOverlay x).pending = s.pending := rfl
@[simp] theorem State.setOverlay_partTime (s : State) (x : Overlay) : (s.setOverlay x).partTime = s.partTime := rfl
@[simp] theorem State.setOverlay_channels (s : State) (x : Overlay) : (s.setOverlay x).channels = s.channels := rfl
@[simp] theorem State.setOverlay_pool (s : State) (x : Overlay) : (s.setOverlay x).pool = s.pool := rfl
@[simp] theorem State.setOverlay_views (s : State) (x : Overlay) : (s.setOverlay x).views = s.views := rfl
@[simp] theorem State.setOverlay_selector (s : State) (x : Overlay) : (s.setOverlay x).selector = s.selector := rfl
@[simp] theorem State.setOverlay_compositor (s : State) (x : Overlay) : (s.setOverlay x).compositor = s.compositor := rfl
@[simp] theorem State.setOverlay_overlay (s : State) (x : Overlay) : (s.setOverlay x).overlay = x := rfl
@[simp] theorem State.setOverlay_monitor (s : State) (x : Overlay) : (s.setOverlay x).monitor = s.monitor := rfl
@[simp] theorem State.setOverlay_output (s : State) (x : Overlay) : (s.setOverlay x).output = s.output := rfl
@[simp] theorem State.setOverlay_mgmt (s : State) (x : Overlay) : (s.setOverlay x).mgmt = s.mgmt := rfl
@[simp] theorem State.setOverlay_port (s : State) (x : Overlay) : (s.setOverlay x).port = s.port := rfl
@[simp] theorem State.setOverlay_channel (s : State) (x : Overlay) (d : Camera) : (s.setOverlay x).channel d = s.channel d := rfl
@[simp] theorem State.setOverlay_view (s : State) (x : Overlay) (w : ViewNo) : (s.setOverlay x).view w = s.view w := rfl
@[simp] theorem State.setOverlay_isRun (s : State) (x : Overlay) : (s.setOverlay x).isRun = s.isRun := rfl

/-! ## setMonitor -/

@[simp] theorem State.setMonitor_pending (s : State) (x : ZoneMonitor) : (s.setMonitor x).pending = s.pending := rfl
@[simp] theorem State.setMonitor_partTime (s : State) (x : ZoneMonitor) : (s.setMonitor x).partTime = s.partTime := rfl
@[simp] theorem State.setMonitor_channels (s : State) (x : ZoneMonitor) : (s.setMonitor x).channels = s.channels := rfl
@[simp] theorem State.setMonitor_pool (s : State) (x : ZoneMonitor) : (s.setMonitor x).pool = s.pool := rfl
@[simp] theorem State.setMonitor_views (s : State) (x : ZoneMonitor) : (s.setMonitor x).views = s.views := rfl
@[simp] theorem State.setMonitor_selector (s : State) (x : ZoneMonitor) : (s.setMonitor x).selector = s.selector := rfl
@[simp] theorem State.setMonitor_compositor (s : State) (x : ZoneMonitor) : (s.setMonitor x).compositor = s.compositor := rfl
@[simp] theorem State.setMonitor_overlay (s : State) (x : ZoneMonitor) : (s.setMonitor x).overlay = s.overlay := rfl
@[simp] theorem State.setMonitor_monitor (s : State) (x : ZoneMonitor) : (s.setMonitor x).monitor = x := rfl
@[simp] theorem State.setMonitor_output (s : State) (x : ZoneMonitor) : (s.setMonitor x).output = s.output := rfl
@[simp] theorem State.setMonitor_mgmt (s : State) (x : ZoneMonitor) : (s.setMonitor x).mgmt = s.mgmt := rfl
@[simp] theorem State.setMonitor_port (s : State) (x : ZoneMonitor) : (s.setMonitor x).port = s.port := rfl
@[simp] theorem State.setMonitor_channel (s : State) (x : ZoneMonitor) (d : Camera) : (s.setMonitor x).channel d = s.channel d := rfl
@[simp] theorem State.setMonitor_view (s : State) (x : ZoneMonitor) (w : ViewNo) : (s.setMonitor x).view w = s.view w := rfl
@[simp] theorem State.setMonitor_isRun (s : State) (x : ZoneMonitor) : (s.setMonitor x).isRun = s.isRun := rfl

/-! ## setOutput -/

@[simp] theorem State.setOutput_pending (s : State) (x : OutputUnit) : (s.setOutput x).pending = s.pending := rfl
@[simp] theorem State.setOutput_partTime (s : State) (x : OutputUnit) : (s.setOutput x).partTime = s.partTime := rfl
@[simp] theorem State.setOutput_channels (s : State) (x : OutputUnit) : (s.setOutput x).channels = s.channels := rfl
@[simp] theorem State.setOutput_pool (s : State) (x : OutputUnit) : (s.setOutput x).pool = s.pool := rfl
@[simp] theorem State.setOutput_views (s : State) (x : OutputUnit) : (s.setOutput x).views = s.views := rfl
@[simp] theorem State.setOutput_selector (s : State) (x : OutputUnit) : (s.setOutput x).selector = s.selector := rfl
@[simp] theorem State.setOutput_compositor (s : State) (x : OutputUnit) : (s.setOutput x).compositor = s.compositor := rfl
@[simp] theorem State.setOutput_overlay (s : State) (x : OutputUnit) : (s.setOutput x).overlay = s.overlay := rfl
@[simp] theorem State.setOutput_monitor (s : State) (x : OutputUnit) : (s.setOutput x).monitor = s.monitor := rfl
@[simp] theorem State.setOutput_output (s : State) (x : OutputUnit) : (s.setOutput x).output = x := rfl
@[simp] theorem State.setOutput_mgmt (s : State) (x : OutputUnit) : (s.setOutput x).mgmt = s.mgmt := rfl
@[simp] theorem State.setOutput_port (s : State) (x : OutputUnit) : (s.setOutput x).port = s.port := rfl
@[simp] theorem State.setOutput_channel (s : State) (x : OutputUnit) (d : Camera) : (s.setOutput x).channel d = s.channel d := rfl
@[simp] theorem State.setOutput_view (s : State) (x : OutputUnit) (w : ViewNo) : (s.setOutput x).view w = s.view w := rfl

/-! ## setMgmt -/

@[simp] theorem State.setMgmt_pending (s : State) (x : Management) : (s.setMgmt x).pending = s.pending := rfl
@[simp] theorem State.setMgmt_partTime (s : State) (x : Management) : (s.setMgmt x).partTime = s.partTime := rfl
@[simp] theorem State.setMgmt_channels (s : State) (x : Management) : (s.setMgmt x).channels = s.channels := rfl
@[simp] theorem State.setMgmt_pool (s : State) (x : Management) : (s.setMgmt x).pool = s.pool := rfl
@[simp] theorem State.setMgmt_views (s : State) (x : Management) : (s.setMgmt x).views = s.views := rfl
@[simp] theorem State.setMgmt_selector (s : State) (x : Management) : (s.setMgmt x).selector = s.selector := rfl
@[simp] theorem State.setMgmt_compositor (s : State) (x : Management) : (s.setMgmt x).compositor = s.compositor := rfl
@[simp] theorem State.setMgmt_overlay (s : State) (x : Management) : (s.setMgmt x).overlay = s.overlay := rfl
@[simp] theorem State.setMgmt_monitor (s : State) (x : Management) : (s.setMgmt x).monitor = s.monitor := rfl
@[simp] theorem State.setMgmt_output (s : State) (x : Management) : (s.setMgmt x).output = s.output := rfl
@[simp] theorem State.setMgmt_mgmt (s : State) (x : Management) : (s.setMgmt x).mgmt = x := rfl
@[simp] theorem State.setMgmt_port (s : State) (x : Management) : (s.setMgmt x).port = s.port := rfl
@[simp] theorem State.setMgmt_channel (s : State) (x : Management) (d : Camera) : (s.setMgmt x).channel d = s.channel d := rfl
@[simp] theorem State.setMgmt_view (s : State) (x : Management) (w : ViewNo) : (s.setMgmt x).view w = s.view w := rfl
@[simp] theorem State.setMgmt_isRun (s : State) (x : Management) : (s.setMgmt x).isRun = s.isRun := rfl

/-! ## setPort -/

@[simp] theorem State.setPort_pending (s : State) (x : DisplayPort) : (s.setPort x).pending = s.pending := rfl
@[simp] theorem State.setPort_partTime (s : State) (x : DisplayPort) : (s.setPort x).partTime = s.partTime := rfl
@[simp] theorem State.setPort_channels (s : State) (x : DisplayPort) : (s.setPort x).channels = s.channels := rfl
@[simp] theorem State.setPort_pool (s : State) (x : DisplayPort) : (s.setPort x).pool = s.pool := rfl
@[simp] theorem State.setPort_views (s : State) (x : DisplayPort) : (s.setPort x).views = s.views := rfl
@[simp] theorem State.setPort_selector (s : State) (x : DisplayPort) : (s.setPort x).selector = s.selector := rfl
@[simp] theorem State.setPort_compositor (s : State) (x : DisplayPort) : (s.setPort x).compositor = s.compositor := rfl
@[simp] theorem State.setPort_overlay (s : State) (x : DisplayPort) : (s.setPort x).overlay = s.overlay := rfl
@[simp] theorem State.setPort_monitor (s : State) (x : DisplayPort) : (s.setPort x).monitor = s.monitor := rfl
@[simp] theorem State.setPort_output (s : State) (x : DisplayPort) : (s.setPort x).output = s.output := rfl
@[simp] theorem State.setPort_mgmt (s : State) (x : DisplayPort) : (s.setPort x).mgmt = s.mgmt := rfl
@[simp] theorem State.setPort_port (s : State) (x : DisplayPort) : (s.setPort x).port = x := rfl
@[simp] theorem State.setPort_channel (s : State) (x : DisplayPort) (d : Camera) : (s.setPort x).channel d = s.channel d := rfl
@[simp] theorem State.setPort_view (s : State) (x : DisplayPort) (w : ViewNo) : (s.setPort x).view w = s.view w := rfl
@[simp] theorem State.setPort_isRun (s : State) (x : DisplayPort) : (s.setPort x).isRun = s.isRun := rfl

/-! ## setView -/

@[simp] theorem State.setView_pending (s : State) (v : ViewNo) (x : View) : (s.setView v x).pending = s.pending := rfl
@[simp] theorem State.setView_partTime (s : State) (v : ViewNo) (x : View) : (s.setView v x).partTime = s.partTime := rfl
@[simp] theorem State.setView_channels (s : State) (v : ViewNo) (x : View) : (s.setView v x).channels = s.channels := rfl
@[simp] theorem State.setView_pool (s : State) (v : ViewNo) (x : View) : (s.setView v x).pool = s.pool := rfl
@[simp] theorem State.setView_views (s : State) (v : ViewNo) (x : View) : (s.setView v x).views = Table.write View.initial s.views v.val x := rfl
@[simp] theorem State.setView_selector (s : State) (v : ViewNo) (x : View) : (s.setView v x).selector = s.selector := rfl
@[simp] theorem State.setView_compositor (s : State) (v : ViewNo) (x : View) : (s.setView v x).compositor = s.compositor := rfl
@[simp] theorem State.setView_overlay (s : State) (v : ViewNo) (x : View) : (s.setView v x).overlay = s.overlay := rfl
@[simp] theorem State.setView_monitor (s : State) (v : ViewNo) (x : View) : (s.setView v x).monitor = s.monitor := rfl
@[simp] theorem State.setView_output (s : State) (v : ViewNo) (x : View) : (s.setView v x).output = s.output := rfl
@[simp] theorem State.setView_mgmt (s : State) (v : ViewNo) (x : View) : (s.setView v x).mgmt = s.mgmt := rfl
@[simp] theorem State.setView_port (s : State) (v : ViewNo) (x : View) : (s.setView v x).port = s.port := rfl
@[simp] theorem State.setView_channel (s : State) (v : ViewNo) (x : View) (d : Camera) : (s.setView v x).channel d = s.channel d := rfl
@[simp] theorem State.setView_isRun (s : State) (v : ViewNo) (x : View) : (s.setView v x).isRun = s.isRun := rfl

/-! ## setPending -/

@[simp] theorem State.setPending_pending (s : State) (l : List Instr) : (s.setPending l).pending = l := rfl
@[simp] theorem State.setPending_partTime (s : State) (l : List Instr) : (s.setPending l).partTime = s.partTime := rfl
@[simp] theorem State.setPending_channels (s : State) (l : List Instr) : (s.setPending l).channels = s.channels := rfl
@[simp] theorem State.setPending_pool (s : State) (l : List Instr) : (s.setPending l).pool = s.pool := rfl
@[simp] theorem State.setPending_views (s : State) (l : List Instr) : (s.setPending l).views = s.views := rfl
@[simp] theorem State.setPending_selector (s : State) (l : List Instr) : (s.setPending l).selector = s.selector := rfl
@[simp] theorem State.setPending_compositor (s : State) (l : List Instr) : (s.setPending l).compositor = s.compositor := rfl
@[simp] theorem State.setPending_overlay (s : State) (l : List Instr) : (s.setPending l).overlay = s.overlay := rfl
@[simp] theorem State.setPending_monitor (s : State) (l : List Instr) : (s.setPending l).monitor = s.monitor := rfl
@[simp] theorem State.setPending_output (s : State) (l : List Instr) : (s.setPending l).output = s.output := rfl
@[simp] theorem State.setPending_mgmt (s : State) (l : List Instr) : (s.setPending l).mgmt = s.mgmt := rfl
@[simp] theorem State.setPending_port (s : State) (l : List Instr) : (s.setPending l).port = s.port := rfl
@[simp] theorem State.setPending_channel (s : State) (l : List Instr) (d : Camera) : (s.setPending l).channel d = s.channel d := rfl
@[simp] theorem State.setPending_view (s : State) (l : List Instr) (w : ViewNo) : (s.setPending l).view w = s.view w := rfl
@[simp] theorem State.setPending_isRun (s : State) (l : List Instr) : (s.setPending l).isRun = s.isRun := rfl

/-! ## raiseLatches -/

@[simp] theorem State.raiseLatches_pending (s : State) (ks : List Latch) : (s.raiseLatches ks).pending = s.pending := rfl
@[simp] theorem State.raiseLatches_partTime (s : State) (ks : List Latch) : (s.raiseLatches ks).partTime = s.partTime := rfl
@[simp] theorem State.raiseLatches_channels (s : State) (ks : List Latch) : (s.raiseLatches ks).channels = s.channels := rfl
@[simp] theorem State.raiseLatches_pool (s : State) (ks : List Latch) : (s.raiseLatches ks).pool = s.pool := rfl
@[simp] theorem State.raiseLatches_views (s : State) (ks : List Latch) : (s.raiseLatches ks).views = s.views := rfl
@[simp] theorem State.raiseLatches_selector (s : State) (ks : List Latch) : (s.raiseLatches ks).selector = s.selector := rfl
@[simp] theorem State.raiseLatches_compositor (s : State) (ks : List Latch) : (s.raiseLatches ks).compositor = s.compositor := rfl
@[simp] theorem State.raiseLatches_overlay (s : State) (ks : List Latch) : (s.raiseLatches ks).overlay = s.overlay := rfl
@[simp] theorem State.raiseLatches_monitor (s : State) (ks : List Latch) : (s.raiseLatches ks).monitor = s.monitor := rfl
@[simp] theorem State.raiseLatches_output (s : State) (ks : List Latch) : (s.raiseLatches ks).output = s.output := rfl
@[simp] theorem State.raiseLatches_mgmt (s : State) (ks : List Latch) : (s.raiseLatches ks).mgmt = { s.mgmt with latches := setLatches s.mgmt.latches ks } := rfl
@[simp] theorem State.raiseLatches_port (s : State) (ks : List Latch) : (s.raiseLatches ks).port = s.port := rfl
@[simp] theorem State.raiseLatches_channel (s : State) (ks : List Latch) (d : Camera) : (s.raiseLatches ks).channel d = s.channel d := rfl
@[simp] theorem State.raiseLatches_view (s : State) (ks : List Latch) (w : ViewNo) : (s.raiseLatches ks).view w = s.view w := rfl
@[simp] theorem State.raiseLatches_isRun (s : State) (ks : List Latch) : (s.raiseLatches ks).isRun = s.isRun := rfl

/-! ## raiseLatch -/

@[simp] theorem State.raiseLatch_pending (s : State) (k : Latch) : (s.raiseLatch k).pending = s.pending := rfl
@[simp] theorem State.raiseLatch_partTime (s : State) (k : Latch) : (s.raiseLatch k).partTime = s.partTime := rfl
@[simp] theorem State.raiseLatch_channels (s : State) (k : Latch) : (s.raiseLatch k).channels = s.channels := rfl
@[simp] theorem State.raiseLatch_pool (s : State) (k : Latch) : (s.raiseLatch k).pool = s.pool := rfl
@[simp] theorem State.raiseLatch_views (s : State) (k : Latch) : (s.raiseLatch k).views = s.views := rfl
@[simp] theorem State.raiseLatch_selector (s : State) (k : Latch) : (s.raiseLatch k).selector = s.selector := rfl
@[simp] theorem State.raiseLatch_compositor (s : State) (k : Latch) : (s.raiseLatch k).compositor = s.compositor := rfl
@[simp] theorem State.raiseLatch_overlay (s : State) (k : Latch) : (s.raiseLatch k).overlay = s.overlay := rfl
@[simp] theorem State.raiseLatch_monitor (s : State) (k : Latch) : (s.raiseLatch k).monitor = s.monitor := rfl
@[simp] theorem State.raiseLatch_output (s : State) (k : Latch) : (s.raiseLatch k).output = s.output := rfl
@[simp] theorem State.raiseLatch_mgmt (s : State) (k : Latch) : (s.raiseLatch k).mgmt = { s.mgmt with latches := setLatches s.mgmt.latches [k] } := rfl
@[simp] theorem State.raiseLatch_port (s : State) (k : Latch) : (s.raiseLatch k).port = s.port := rfl
@[simp] theorem State.raiseLatch_channel (s : State) (k : Latch) (d : Camera) : (s.raiseLatch k).channel d = s.channel d := rfl
@[simp] theorem State.raiseLatch_view (s : State) (k : Latch) (w : ViewNo) : (s.raiseLatch k).view w = s.view w := rfl
@[simp] theorem State.raiseLatch_isRun (s : State) (k : Latch) : (s.raiseLatch k).isRun = s.isRun := rfl

/-! ## pushReply -/

@[simp] theorem State.pushReply_pending (s : State) (m : Message) (r : Result) (p : List Byte) : (s.pushReply m r p).pending = s.pending := rfl
@[simp] theorem State.pushReply_partTime (s : State) (m : Message) (r : Result) (p : List Byte) : (s.pushReply m r p).partTime = s.partTime := rfl
@[simp] theorem State.pushReply_channels (s : State) (m : Message) (r : Result) (p : List Byte) : (s.pushReply m r p).channels = s.channels := rfl
@[simp] theorem State.pushReply_pool (s : State) (m : Message) (r : Result) (p : List Byte) : (s.pushReply m r p).pool = s.pool := rfl
@[simp] theorem State.pushReply_views (s : State) (m : Message) (r : Result) (p : List Byte) : (s.pushReply m r p).views = s.views := rfl
@[simp] theorem State.pushReply_selector (s : State) (m : Message) (r : Result) (p : List Byte) : (s.pushReply m r p).selector = s.selector := rfl
@[simp] theorem State.pushReply_compositor (s : State) (m : Message) (r : Result) (p : List Byte) : (s.pushReply m r p).compositor = s.compositor := rfl
@[simp] theorem State.pushReply_overlay (s : State) (m : Message) (r : Result) (p : List Byte) : (s.pushReply m r p).overlay = s.overlay := rfl
@[simp] theorem State.pushReply_monitor (s : State) (m : Message) (r : Result) (p : List Byte) : (s.pushReply m r p).monitor = s.monitor := rfl
@[simp] theorem State.pushReply_output (s : State) (m : Message) (r : Result) (p : List Byte) : (s.pushReply m r p).output = s.output := rfl
@[simp] theorem State.pushReply_mgmt (s : State) (m : Message) (r : Result) (p : List Byte) : (s.pushReply m r p).mgmt = { s.mgmt with replies := s.mgmt.replies ++ [replyTo m r p] } := rfl
@[simp] theorem State.pushReply_port (s : State) (m : Message) (r : Result) (p : List Byte) : (s.pushReply m r p).port = s.port := rfl
@[simp] theorem State.pushReply_channel (s : State) (m : Message) (r : Result) (p : List Byte) (d : Camera) : (s.pushReply m r p).channel d = s.channel d := rfl
@[simp] theorem State.pushReply_view (s : State) (m : Message) (r : Result) (p : List Byte) (w : ViewNo) : (s.pushReply m r p).view w = s.view w := rfl
@[simp] theorem State.pushReply_isRun (s : State) (m : Message) (r : Result) (p : List Byte) : (s.pushReply m r p).isRun = s.isRun := rfl

end Sys2Proof.Machine
end

