-- ==== Sys2Proof/Laws/Table.lean ====
section
/-!
SUPPORT. The laws of a table: a read after a write, a write that leaves every other number alone, and that every operation keeps the
canonical form.
-/
namespace Sys2Proof.Machine

variable {α : Type}

@[simp] theorem Table.read_nil (d : α) (i : Nat) : Table.read d [] i = d := rfl

theorem Table.read_erase_same (d : α) (t : Table α) (i : Nat) : Table.read d (Table.erase t i) i = d := by
  induction t with
  | nil => rfl
  | cons e rest ih =>
    obtain ⟨k, v⟩ := e
    by_cases h : k = i <;> simp [Table.erase, Table.read, h, ih]

theorem Table.read_erase_other (d : α) (t : Table α) {i j : Nat} (hj : j ≠ i) :
    Table.read d (Table.erase t i) j = Table.read d t j := by
  induction t with
  | nil => rfl
  | cons e rest ih =>
    obtain ⟨k, v⟩ := e
    by_cases h : k = i
    · have : ¬ k = j := fun hk => hj (hk ▸ h)
      simp [Table.erase, Table.read, h, ih, Ne.symm hj]
    · by_cases hk : k = j <;> simp [Table.erase, Table.read, h, hk, ih] <;> simp_all [Table.read]

theorem Table.read_insert_other (d : α) (t : Table α) {i j : Nat} (v : α) (hj : j ≠ i) :
    Table.read d (Table.insert t i v) j = Table.read d t j := by
  induction t with
  | nil => simp [Table.insert, Table.read, Ne.symm hj]
  | cons e rest ih =>
    obtain ⟨k, w⟩ := e
    by_cases h : i < k
    · simp [Table.insert, h, Table.read, Ne.symm hj]
    · simp only [Table.insert, h, if_false, Table.read, ih]

theorem Table.read_insert_erase (d : α) (t : Table α) (i : Nat) (v : α) :
    Table.read d (Table.insert (Table.erase t i) i v) i = v := by
  induction t with
  | nil => simp [Table.erase, Table.insert, Table.read]
  | cons e rest ih =>
    obtain ⟨k, w⟩ := e
    by_cases h : k = i
    · simp [Table.erase, h, ih]
    · by_cases hk : i < k <;> simp [Table.erase, h, Table.insert, hk, Table.read, ih]

variable [DecidableEq α]

@[simp] theorem Table.read_write_same (d : α) (t : Table α) (i : Nat) (v : α) : Table.read d (Table.write d t i v) i = v := by
  by_cases h : v = d
  · simp [Table.write, h, Table.read_erase_same]
  · simp [Table.write, h, Table.read_insert_erase]

theorem Table.read_write_other (d : α) (t : Table α) {i j : Nat} (v : α) (hj : j ≠ i) :
    Table.read d (Table.write d t i v) j = Table.read d t j := by
  by_cases h : v = d
  · simp [Table.write, h, Table.read_erase_other d t hj]
  · simp [Table.write, h, Table.read_insert_other d _ v hj, Table.read_erase_other d t hj]

theorem Table.read_write (d : α) (t : Table α) (i j : Nat) (v : α) :
    Table.read d (Table.write d t i v) j = if j = i then v else Table.read d t j := by
  by_cases h : j = i
  · simp [h]
  · simp [h, Table.read_write_other d t v h]

theorem Table.read_tabulateFrom (d : α) (f : Nat → α) (lo n j : Nat) :
    Table.read d (Table.tabulateFrom d f lo n) j = if lo ≤ j ∧ j < lo + n then f j else d := by
  induction n generalizing lo with
  | zero => simp [Table.tabulateFrom] <;> omega
  | succ n ih =>
    by_cases h : f lo = d
    · simp only [Table.tabulateFrom, h, if_true, ih]
      by_cases hj : j = lo
      · subst hj; simp [h]
      · congr 1; simp only [eq_iff_iff]; omega
    · simp only [Table.tabulateFrom, h, if_false, Table.read]
      by_cases hj : lo = j
      · subst hj; simp
      · rw [if_neg hj, ih]; congr 1; simp only [eq_iff_iff]; omega

@[simp] theorem Table.read_tabulate (d : α) (n : Nat) (f : Nat → α) (j : Nat) :
    Table.read d (Table.tabulate d n f) j = if j < n then f j else d := by
  simp [Table.tabulate, Table.read_tabulateFrom]

theorem Table.read_writeMany (d : α) (vs : List α) (t : Table α) (i j : Nat) :
    Table.read d (Table.writeMany d t i vs) j = if i ≤ j ∧ j < i + vs.length then vs.getD (j - i) d else Table.read d t j := by
  induction vs generalizing t i with
  | nil => simp [Table.writeMany] <;> omega
  | cons v vs ih =>
    simp only [Table.writeMany, ih, Table.read_write, List.length_cons]
    rcases Nat.lt_trichotomy j i with h | h | h
    · rw [if_neg (by omega), if_neg (by omega), if_neg (by omega)]
    · subst h; rw [if_neg (by omega), if_pos rfl, if_pos (by omega)]; simp
    · obtain ⟨k, rfl⟩ : ∃ k, j = i + 1 + k := ⟨j - (i + 1), by omega⟩
      by_cases hk : k < vs.length
      · rw [if_pos (by omega), if_pos (by omega)]
        have : i + 1 + k - i = k + 1 := by omega
        have h2 : i + 1 + k - (i + 1) = k := by omega
        rw [this, h2]; simp
      · rw [if_neg (by omega), if_neg (by omega), if_neg (by omega)]

/-! ## The canonical form -/

theorem Table.wfFrom_weaken (d : α) {hi lo lo' : Nat} {t : Table α} (h : lo' ≤ lo) (w : Table.wfFrom d hi lo t = true) :
    Table.wfFrom d hi lo' t = true := by
  cases t with
  | nil => rfl
  | cons e rest =>
    obtain ⟨k, v⟩ := e
    simp only [Table.wfFrom, Bool.and_eq_true, decide_eq_true_eq] at w ⊢
    exact ⟨⟨⟨by omega, w.1.1.2⟩, w.1.2⟩, w.2⟩

theorem Table.wfFrom_erase (d : α) {hi lo : Nat} {t : Table α} (i : Nat) (w : Table.wfFrom d hi lo t = true) :
    Table.wfFrom d hi lo (Table.erase t i) = true := by
  induction t generalizing lo with
  | nil => rfl
  | cons e rest ih =>
    obtain ⟨k, v⟩ := e
    simp only [Table.wfFrom, Bool.and_eq_true, decide_eq_true_eq] at w
    by_cases h : k = i
    · simp only [Table.erase, h, if_true]
      exact Table.wfFrom_weaken d (by omega) (ih w.2)
    · simp only [Table.erase, h, if_false, Table.wfFrom, Bool.and_eq_true, decide_eq_true_eq]
      exact ⟨w.1, ih w.2⟩

theorem Table.wfFrom_insert_erase (d : α) {hi lo : Nat} {t : Table α} {i : Nat} {v : α} (hi1 : lo ≤ i) (hi2 : i < hi)
    (hv : v ≠ d) (w : Table.wfFrom d hi lo t = true) : Table.wfFrom d hi lo (Table.insert (Table.erase t i) i v) = true := by
  induction t generalizing lo with
  | nil => simp [Table.erase, Table.insert, Table.wfFrom, hi1, hi2, hv]
  | cons e rest ih =>
    obtain ⟨k, u⟩ := e
    simp only [Table.wfFrom, Bool.and_eq_true, decide_eq_true_eq] at w
    by_cases h : k = i
    · simp only [Table.erase, h, if_true]
      exact ih hi1 (Table.wfFrom_weaken d (by omega) w.2)
    · simp only [Table.erase, h, if_false, Table.insert]
      by_cases hk : i < k
      · simp only [hk, if_true, Table.wfFrom, Bool.and_eq_true, decide_eq_true_eq]
        exact ⟨⟨⟨hi1, hi2⟩, hv⟩, ⟨⟨by omega, w.1.1.2⟩, w.1.2⟩, Table.wfFrom_erase d i w.2⟩
      · simp only [hk, if_false, Table.wfFrom, Bool.and_eq_true, decide_eq_true_eq]
        exact ⟨w.1, ih (by omega) w.2⟩

/-- A write of a number within the table keeps the canonical form. -/
theorem Table.wf_write (d : α) {n i : Nat} {t : Table α} (v : α) (hi : i < n) (w : Table.wf d n t = true) :
    Table.wf d n (Table.write d t i v) = true := by
  by_cases h : v = d
  · simpa [Table.write, Table.wf, h] using Table.wfFrom_erase d i w
  · simpa [Table.write, Table.wf, h] using Table.wfFrom_insert_erase d (Nat.zero_le i) hi h w

theorem Table.wfFrom_tabulateFrom (d : α) (f : Nat → α) (lo n : Nat) :
    Table.wfFrom d (lo + n) lo (Table.tabulateFrom d f lo n) = true := by
  induction n generalizing lo with
  | zero => rfl
  | succ n ih =>
    have e : lo + (n + 1) = lo + 1 + n := by omega
    by_cases h : f lo = d
    · simp only [Table.tabulateFrom, h, if_true, e]
      exact Table.wfFrom_weaken d (by omega) (ih (lo + 1))
    · simp only [Table.tabulateFrom, h, if_false, Table.wfFrom, Bool.and_eq_true, decide_eq_true_eq]
      exact ⟨⟨⟨Nat.le_refl _, by omega⟩, h⟩, e ▸ ih (lo + 1)⟩

/-- A table made by tabulation is canonical. -/
theorem Table.wf_tabulate (d : α) (n : Nat) (f : Nat → α) : Table.wf d n (Table.tabulate d n f) = true := by
  simpa [Table.wf, Table.tabulate] using Table.wfFrom_tabulateFrom d f 0 n

/-- Writing consecutive numbers within the table keeps the canonical form. -/
theorem Table.wf_writeMany (d : α) {n : Nat} (vs : List α) {t : Table α} {i : Nat} (hi : i + vs.length ≤ n)
    (w : Table.wf d n t = true) : Table.wf d n (Table.writeMany d t i vs) = true := by
  induction vs generalizing t i with
  | nil => exact w
  | cons v vs ih =>
    rw [List.length_cons] at hi
    exact ih (by omega) (Table.wf_write d v (by omega) w)

end Sys2Proof.Machine
end

