-- ==== Sys2Proof/Laws/Ops.lean ====
section
/-!
SUPPORT. What each shared operation can do, said once: the executor's taking of a request, its execution, the latches, and the reading of
views, zones, slots, banks and rules after they are written.
-/
namespace Sys2Proof.Machine

/-! ## Latches -/

@[simp] theorem State.raiseLatches_nil (s : State) : s.raiseLatches [] = s := rfl

@[simp] theorem State.raiseLatch_eq (s : State) (k : Latch) : s.raiseLatch k = s.latched k := rfl

@[simp] theorem State.raiseLatches_singleton (s : State) (k : Latch) : s.raiseLatches [k] = s.latched k := rfl

@[simp] theorem latchIf_true (k : Latch) : latchIf true k = [k] := rfl

@[simp] theorem latchIf_false (k : Latch) : latchIf false k = [] := rfl

/-! ## The executor -/

/-- What a take that succeeds has done: the head of the queue, of the row asked for, has left it. -/
theorem takeRequest_eq_some {row : RequestRow} {s s1 : State} {m : Message} (h : takeRequest row s = some (m, s1)) :
    ∃ rest, s.mgmt.requests = m :: rest ∧ s.mgmt.executor = .idle ∧ requestRow m = row ∧
      (s.mgmt.replies.length < 16 ∨ isRestart m = true) ∧ s1 = s.setMgmt { s.mgmt with requests := rest } := by
  unfold takeRequest at h
  split at h
  · cases h
  · rename_i m' rest hr
    split at h
    · rename_i hc
      cases h
      simp only [Bool.and_eq_true, decide_eq_true_eq] at hc
      have hcan := hc.1
      unfold canTake at hcan
      rw [hr] at hcan
      split at hcan
      · rename_i hi hq
        cases hq
        exact ⟨rest, hr, hi, hc.2, by simpa using hcan, rfl⟩
      · cases hcan
    · cases h

/-- A take of an awaited request of the row succeeds. -/
theorem takeRequest_of_awaits {row : RequestRow} {s : State} {m : Message} {rest : List Message} (h : s.Awaits m rest)
    (hr : requestRow m = row) : takeRequest row s = some (m, s.setMgmt { s.mgmt with requests := rest }) := by
  simp [takeRequest, canTake, h.head, h.idle, h.room, hr]

/-- Awaiting does not depend on part time. -/
theorem State.Awaits.atTime {s : State} {m : Message} {rest : List Message} (h : s.Awaits m rest) (t : PartTime) :
    (s.atTime t).Awaits m rest :=
  ⟨h.idle, h.head, h.room⟩

/-- The state an answer leaves, with the reply it makes. -/
def Answer.settle (a : Answer) (m : Message) : State :=
  match a with
  | ⟨s, some (r, p)⟩ => s.pushReply m r p
  | ⟨s, none⟩ => s

@[simp] theorem refuse_settle (s : State) (r : Result) (m : Message) : (refuse s r).settle m = s.pushReply m r [] := rfl

@[simp] theorem done_settle (s : State) (p : List Byte) (m : Message) : (done s p).settle m = s.pushReply m .ok p := rfl

/-- An awaited request that passes the whole-message tests has its row's effect on the state with the head taken, and its reply. -/
theorem executeRequest_of_awaits {row : RequestRow} {s : State} {m : Message} {rest : List Message} (t : PartTime)
    (effect : Message → State → Answer) (h : s.Awaits m rest) (hr : requestRow m = row) (hok : wholeMessageOk m = true) :
    executeRequest row t effect s = (effect m (s.taken t rest)).settle m := by
  unfold executeRequest
  rw [takeRequest_of_awaits (h.atTime t) hr]
  simp only [hok, if_true]
  rfl

/-- An awaited request that fails them is answered MALFORMED and changes nothing else. -/
theorem executeRequest_malformed {row : RequestRow} {s : State} {m : Message} {rest : List Message} (t : PartTime)
    (effect : Message → State → Answer) (h : s.Awaits m rest) (hr : requestRow m = row) (hok : wholeMessageOk m = false) :
    executeRequest row t effect s = (s.taken t rest).pushReply m .malformed [] := by
  unfold executeRequest
  rw [takeRequest_of_awaits (h.atTime t) hr]
  simp only [hok]
  rfl

/-- Where nothing is taken, only part time passes. -/
theorem executeRequest_waits {row : RequestRow} {s : State} (t : PartTime) (effect : Message → State → Answer)
    (h : takeRequest row (s.atTime t) = none) : executeRequest row t effect s = s.atTime t := by
  unfold executeRequest
  rw [h]

/-- Everything one execution can do: only part time passes, or the head of the queue is refused whole, or its row's effect is made. -/
theorem executeRequest_cases (row : RequestRow) (t : PartTime) (effect : Message → State → Answer) (s : State) :
    executeRequest row t effect s = s.atTime t ∨
      ∃ m rest, s.mgmt.requests = m :: rest ∧ s.mgmt.executor = .idle ∧ requestRow m = row ∧
        (s.mgmt.replies.length < 16 ∨ isRestart m = true) ∧
        (wholeMessageOk m = false ∧ executeRequest row t effect s = (s.taken t rest).pushReply m .malformed [] ∨
          wholeMessageOk m = true ∧ executeRequest row t effect s = (effect m (s.taken t rest)).settle m) := by
  rcases hx : takeRequest row (s.atTime t) with _ | ⟨m, s1⟩
  · exact .inl (executeRequest_waits t effect hx)
  · obtain ⟨rest, hr, hi, hm, hroom, rfl⟩ := takeRequest_eq_some hx
    refine .inr ⟨m, rest, hr, hi, hm, hroom, ?_⟩
    rcases hok : wholeMessageOk m with _ | _
    · exact .inl ⟨rfl, by simp [executeRequest, hx, hok]; rfl⟩
    · exact .inr ⟨rfl, by simp only [executeRequest, hx, hok, if_true]; rfl⟩

/-! ## The state with a request taken -/

@[simp] theorem State.taken_channel (s : State) (t : PartTime) (rest : List Message) (c : Camera) :
    (s.taken t rest).channel c = s.channel c := rfl
@[simp] theorem State.taken_view (s : State) (t : PartTime) (rest : List Message) (v : ViewNo) :
    (s.taken t rest).view v = s.view v := rfl
@[simp] theorem State.taken_isRun (s : State) (t : PartTime) (rest : List Message) : (s.taken t rest).isRun = s.isRun := rfl
@[simp] theorem State.taken_partTime (s : State) (t : PartTime) (rest : List Message) : (s.taken t rest).partTime = t := rfl
@[simp] theorem State.taken_pool (s : State) (t : PartTime) (rest : List Message) : (s.taken t rest).pool = s.pool := rfl
@[simp] theorem State.taken_views (s : State) (t : PartTime) (rest : List Message) : (s.taken t rest).views = s.views := rfl
@[simp] theorem State.taken_selector (s : State) (t : PartTime) (rest : List Message) :
    (s.taken t rest).selector = s.selector := rfl
@[simp] theorem State.taken_overlay (s : State) (t : PartTime) (rest : List Message) : (s.taken t rest).overlay = s.overlay := rfl
@[simp] theorem State.taken_monitor (s : State) (t : PartTime) (rest : List Message) : (s.taken t rest).monitor = s.monitor := rfl
@[simp] theorem State.taken_output (s : State) (t : PartTime) (rest : List Message) : (s.taken t rest).output = s.output := rfl

/-! ## Views, zones, slots, rules and banks -/

@[simp] theorem State.view_setView_same (s : State) (v : ViewNo) (x : View) : (s.setView v x).view v = x :=
  Table.read_write_same View.initial s.views v.val x

theorem State.view_setView_other (s : State) {v w : ViewNo} (x : View) (h : w ≠ v) : (s.setView v x).view w = s.view w :=
  Table.read_write_other View.initial s.views x fun e => h (Fin.ext e)

@[simp] theorem ZoneMonitor.zone_setZone_same (m : ZoneMonitor) (z : ZoneNo) (x : Zone) : (m.setZone z x).zone z = x :=
  Table.read_write_same Zone.initial m.zones z.val x

theorem ZoneMonitor.zone_setZone_other (m : ZoneMonitor) {z w : ZoneNo} (x : Zone) (h : w ≠ z) : (m.setZone z x).zone w = m.zone w :=
  Table.read_write_other Zone.initial m.zones x fun e => h (Fin.ext e)

@[simp] theorem ZoneMonitor.zone_mapZones (m : ZoneMonitor) (f : Zone → Zone) (z : ZoneNo) : (m.mapZones f).zone z = f (m.zone z) := by
  simp [ZoneMonitor.zone, ZoneMonitor.mapZones, z.isLt]

@[simp] theorem Pool.slot_setSlot_same (p : Pool) (k : SlotNo) (x : Slot) : (p.setSlot k x).slot k = x :=
  Table.read_write_same Slot.free p.slots k.val x

theorem Pool.slot_setSlot_other (p : Pool) {k j : SlotNo} (x : Slot) (h : j ≠ k) : (p.setSlot k x).slot j = p.slot j :=
  Table.read_write_other Slot.free p.slots x fun e => h (Fin.ext e)

@[simp] theorem Pool.slot_mapSlots (p : Pool) (f : Slot → Slot) (k : SlotNo) : (p.mapSlots f).slot k = f (p.slot k) := by
  simp [Pool.slot, Pool.mapSlots, k.isLt]

@[simp] theorem Pool.slot_setReady (p : Pool) (c : Camera) (l : List SlotNo) (k : SlotNo) : (p.setReady c l).slot k = p.slot k := rfl

@[simp] theorem Pool.ready_setReady_same (p : Pool) (c : Camera) (l : List SlotNo) : (p.setReady c l).ready.get c = l :=
  PerCamera.get_set_same p.ready c l

@[simp] theorem Pool.ready_setSlot (p : Pool) (k : SlotNo) (x : Slot) : (p.setSlot k x).ready = p.ready := rfl

@[simp] theorem Overlay.bank_setBank_same (o : Overlay) (which : BankId) (x : Bank) : (o.setBank which x).bank which = x := by
  cases which <;> rfl

theorem Overlay.bank_setBank_other (o : Overlay) (which : BankId) (x : Bank) :
    (o.setBank which x).bank which.other = o.bank which.other := by
  cases which <;> rfl

end Sys2Proof.Machine
end

