-- ==== Sys2Proof/Laws/Ingest.lean ====
section
/-!
SUPPORT. What the operations of ingest and the slot pool can do, said once: the latches a list of causes sets, the choice of a slot, the
start of a frame, and the fields of a channel that the cadence step and the freeze check can change.
-/
namespace Sys2Proof.Machine

/-! ## Latches -/

theorem member_setLatch (l : Latches) (k : Latch) (n : Nat) (hn : n < 43) :
    member (setLatch l k) n = true ↔ member l n = true ∨ k.number = n := by
  simp [member, setLatch, hn, eq_comm (a := n)]

/-- The latches after a list of causes: those set before and those the causes stand for. -/
theorem member_setLatches (ks : List Latch) (l : Latches) (n : Nat) (hn : n < 43) :
    member (setLatches l ks) n = true ↔ member l n = true ∨ ∃ k ∈ ks, k.number = n := by
  induction ks generalizing l with
  | nil => simp [setLatches]
  | cons k ks ih =>
    have hs : setLatches l (k :: ks) = setLatches (setLatch l k) ks := rfl
    rw [hs, ih, member_setLatch _ _ _ hn]
    simp [or_assoc]

theorem setLatches_append (l : Latches) (a b : List Latch) : setLatches l (a ++ b) = setLatches (setLatches l a) b := by
  simp [setLatches, List.foldl_append]

/-- A state whose latches are another's with the causes set stands to it as `State.Raised` says. -/
theorem State.raised_of_latches {s s' : State} {ks : List Latch} (h : s'.mgmt.latches = setLatches s.mgmt.latches ks) :
    s.Raised ks s' := by
  intro n hn
  rw [h]
  exact member_setLatches ks _ n hn

@[simp] theorem State.channel_latched (s : State) (k : Latch) (c : Camera) : (s.latched k).channel c = s.channel c := rfl

theorem State.setChannel_latched (s : State) (k : Latch) (c : Camera) (x : Channel) :
    (s.latched k).setChannel c x = (s.setChannel c x).latched k := rfl

/-! ## The choice of a slot (R33) -/

theorem lowestSlot_eq_none (l : List SlotNo) : lowestSlot l = none ↔ l = [] := by
  cases l with
  | nil => simp [lowestSlot]
  | cons k l =>
    simp only [lowestSlot, reduceCtorEq, iff_false]
    split <;> simp

theorem lowestSlot_eq_some (l : List SlotNo) (k : SlotNo) : lowestSlot l = some k ↔ k ∈ l ∧ ∀ j ∈ l, k ≤ j := by
  induction l generalizing k with
  | nil => simp [lowestSlot]
  | cons a l ih =>
    unfold lowestSlot
    cases hl : lowestSlot l with
    | none =>
      rw [lowestSlot_eq_none] at hl
      subst hl
      simp only [Option.some.injEq, List.mem_singleton, forall_eq]
      exact ⟨fun h => ⟨h.symm, le_of_eq h.symm⟩, fun h => h.1.symm⟩
    | some j =>
      obtain ⟨hj, hlow⟩ := (ih j).1 hl
      by_cases haj : a.val ≤ j.val
      · simp only [haj, if_true, Option.some.injEq, List.mem_cons, forall_eq_or_imp]
        constructor
        · rintro rfl
          exact ⟨.inl rfl, le_refl _, fun i hi => le_trans (Fin.le_def.2 haj) (hlow i hi)⟩
        · rintro ⟨hk, hka, hkl⟩
          rcases hk with rfl | hk
          · rfl
          · exact le_antisymm (le_trans (Fin.le_def.2 haj) (hlow k hk)) hka
      · simp only [haj, if_false, Option.some.injEq, List.mem_cons, forall_eq_or_imp]
        have hlt : j ≤ a := Fin.le_def.2 (le_of_lt (not_le.1 haj))
        constructor
        · rintro rfl
          exact ⟨.inr hj, hlt, hlow⟩
        · rintro ⟨hk, hka, hkl⟩
          rcases hk with rfl | hk
          · exact absurd (Fin.le_def.1 (hkl j hj)) haj
          · exact le_antisymm (hlow k hk) (hkl j hj)

/-- Everything the pool can answer a camera: the lowest FREE slot of the list, else the oldest READY slot, else a skip (R33). -/
theorem Pool.allocation_cases (p : Pool) (c : Camera) (list : List SlotNo) :
    (∃ k ∈ list, p.slot k = .free ∧ (∀ j ∈ list, p.slot j = .free → k ≤ j) ∧ p.allocation c list = .free k) ∨
    (∀ j ∈ list, p.slot j ≠ .free) ∧
      ((∃ k rest, p.ready.get c = k :: rest ∧ p.allocation c list = .overwrite k rest) ∨
        p.ready.get c = [] ∧ p.allocation c list = .skip) := by
  unfold Pool.allocation
  cases hl : lowestSlot (list.filter fun k => decide (p.slot k = .free)) with
  | some k =>
    rw [lowestSlot_eq_some] at hl
    simp only [List.mem_filter, decide_eq_true_eq, and_imp] at hl
    exact .inl ⟨k, hl.1.1, hl.1.2, hl.2, rfl⟩
  | none =>
    rw [lowestSlot_eq_none, List.filter_eq_nil_iff] at hl
    refine .inr ⟨by simpa using hl, ?_⟩
    cases hr : p.ready.get c with
    | nil => exact .inr ⟨rfl, rfl⟩
    | cons k rest => exact .inl ⟨k, rest, rfl, rfl⟩

/-- Everything the start of a frame can do: the lowest FREE slot of the list, or with none FREE the oldest READY slot, its overwriting
counted, or with neither a skip, counted and latched (R5, R33, R34, R35). -/
theorem State.startFrame_cases (s : State) (c : Camera) (number : BitVec 16) :
    (∃ k ∈ (s.channel c).record.slotList, s.pool.slot k = .free ∧
      (∀ j ∈ (s.channel c).record.slotList, s.pool.slot j = .free → k ≤ j) ∧
      s.startFrame c number = (s.setPool (s.pool.setSlot k (.filling c))).setChannel c
        { s.channel c with filling := some (FillingFrame.start k number) }) ∨
    (∀ j ∈ (s.channel c).record.slotList, s.pool.slot j ≠ .free) ∧
      ((∃ k rest, s.pool.ready.get c = k :: rest ∧
        s.startFrame c number = (s.setPool ((s.pool.setSlot k (.filling c)).setReady c rest)).setChannel c { s.channel c with
          counters := { (s.channel c).counters with overwritten := raise (s.channel c).counters.overwritten 1 }
          filling := some (FillingFrame.start k number) }) ∨
        s.pool.ready.get c = [] ∧ s.startFrame c number = (s.setChannel c { s.channel c with
          counters := { (s.channel c).counters with skipped := raise (s.channel c).counters.skipped 1 }
          filling := none }).latched (.camSkipped c)) := by
  unfold State.startFrame State.allocate
  rcases s.pool.allocation_cases c (s.channel c).record.slotList with ⟨k, hk, hf, hl, ha⟩ | ⟨hn, ⟨k, rest, hr, ha⟩ | ⟨hr, ha⟩⟩
  · simp only [ha]
    exact .inl ⟨k, hk, hf, hl, rfl⟩
  · refine .inr ⟨hn, .inl ⟨k, rest, hr, ?_⟩⟩
    simp only [ha]
    rw [State.channel_setChannel_same, State.setChannel_setChannel]
    rfl
  · refine .inr ⟨hn, .inr ⟨hr, ?_⟩⟩
    simp only [ha, State.raiseLatch_eq, State.setChannel_latched, State.channel_latched, State.channel_setChannel_same,
      State.setChannel_setChannel]
    rfl

/-! ## What the two checks of a channel can change (R14 to R17) -/

/-- The cadence step changes a channel's state, reason set and cadence tracker, and nothing else. -/
theorem Channel.cadenceStep_frame (c : Camera) (t : PartTime) (ch : Channel) :
    ∃ state reasons cadence, (ch.cadenceStep c t).1 = { ch with state := state, reasons := reasons, cadence := cadence } := by
  have loss : ∀ (x : Channel) (m : Option CadenceClass), ∃ state reasons cadence,
      (x.cadenceLoss c m).1 = { x with state := state, reasons := reasons, cadence := cadence } := by
    intro x m
    unfold Channel.cadenceLoss Channel.withReasons
    repeat' (first | exact ⟨_, _, _, rfl⟩ | split)
  have adoption : ∀ x : Channel, ∃ state reasons cadence,
      (x.cadenceAdoption c).1 = { x with state := state, reasons := reasons, cadence := cadence } := by
    intro x
    unfold Channel.cadenceAdoption Channel.withReasons
    repeat' (first | exact ⟨_, _, _, rfl⟩ | split | dsimp only)
  obtain ⟨_, _, _, hl⟩ := loss { ch with cadence := ch.cadence.step t } (ch.cadence.measured t)
  obtain ⟨_, _, _, ha⟩ := adoption ({ ch with cadence := ch.cadence.step t }.cadenceLoss c (ch.cadence.measured t)).1
  unfold Channel.cadenceStep
  dsimp only
  rw [ha, hl]
  exact ⟨_, _, _, rfl⟩

/-- The freeze check changes a channel's state, reason set and freeze tracker, and nothing else. -/
theorem Channel.freezeCheck_frame (c : Camera) (ch : Channel) (signature : BitVec 16) :
    ∃ state reasons freeze, (ch.freezeCheck c signature).1 = { ch with state := state, reasons := reasons, freeze := freeze } := by
  unfold Channel.freezeCheck Channel.withReasons
  repeat' (first | exact ⟨_, _, _, rfl⟩ | split | dsimp only)

end Sys2Proof.Machine
end

