-- ==== Sys2Proof/Tests/Slice0.lean ====
section
/-!
SUPPORT. The model's own tests: each check of WellFormed refuses an ill-formed command; single steps on small states, their expected
results taken from the rules, tables and worked examples of spec/; and, for each obligation with hypotheses, a state and operands that
meet them (the theorems named witness_...).
-/
namespace Sys2Proof.Tests

open Sys2Proof Sys2Proof.Machine

-- The tests are many small kernel evaluations: one after the other they stay within the memory a compile is given.
set_option Elab.async false

/-! ## Small states -/

/-- The state a command leaves. -/
def after (i : Instr) (s : State) : State :=
  match exec i s with
  | .next s' => s'
  | _ => s

/-- The state with one request waiting. -/
def asking (s : State) (m : Message) : State := { s with mgmt := { s.mgmt with requests := [m] } }

/-- The target byte a reply carries. -/
def targetOf (m : Message) : Byte := if m.kind = 2 ∨ m.kind = 3 then m.target else 0

/-- The command answers the request with a result and a payload, and changes nothing else. -/
def answers (i : PartTime → Instr) (s : State) (m : Message) (r : Result) (p : List Byte) : Bool :=
  decide (after (i 9) (asking s m) = ((asking s m).taken 9 []).answered m.tag m.kind (targetOf m) r p)

/-- The command has an effect on the state with the request taken, and answers with a result and a payload. -/
def does (i : PartTime → Instr) (s : State) (m : Message) (f : State → State) (r : Result) (p : List Byte) : Bool :=
  decide (after (i 9) (asking s m) = (f ((asking s m).taken 9 [])).answered m.tag m.kind (targetOf m) r p)

/-- A view with a grid, its header written and tile 0 written. -/
def viewOf (st : ViewState) (columns rows : Nat) : View :=
  ⟨st, { ViewHeader.cleared with columns := columns, rows := rows }, true, [(0, true)], []⟩

/-- Frames of camera 0 completed at part times 0 and 3. -/
def frameA : FrameRecord := ⟨0, 99, 0, 0, 800, 0, 0⟩
def frameB : FrameRecord := ⟨0, 100, 1, 3, 800, 0, 0⟩

/-- Camera 0 LIVE at 30, camera 1 LIVE and filling slot 4, camera 2 LOST, camera 3 OFF. -/
def channels0 : PerCamera Channel where
  cam0 := { Channel.initial 0 with state := .live, cadence := ⟨some 0, some .c30, 4, some .c30, 0⟩, lossTimer := some 0 }
  cam1 := { Channel.initial 1 with
    state := .live, cadence := ⟨some 0, some .c30, 4, some .c30, 0⟩, lossTimer := some 0
    filling := some ⟨4, 17, 0, none, 0, 0, 0⟩ }
  cam2 := { Channel.initial 2 with state := .lost }
  cam3 := Channel.initial 3

/-- Slots 0 and 1 READY for camera 0, slot 4 FILLING for camera 1. -/
def pool0 : Pool where
  slots := [(0, .ready 0 frameA false), (1, .ready 0 frameB false), (4, .filling 1)]
  ready := ⟨[0, 1], [], [], []⟩
  pixels := []
  snapshot := .build fun _ => none

/-- In CONFIG: views 0 and 1 VALID, 2 LOADING and whole, 3 and 4 WITHDRAWN, 5 EMPTY, 6 LOADING and not whole. -/
def config0 : State := { State.reset with
  channels := channels0
  pool := pool0
  views := [(0, viewOf .valid 25 15), (1, viewOf .valid 25 15), (2, viewOf .loading 1 1), (3, viewOf .withdrawn 25 15),
    (4, viewOf .withdrawn 1 1), (6, viewOf .loading 2 1)]
  output := { OutputUnit.initial with phase := .blanked } }

/-- The same in RUN, view 0 current, view 1 forced. -/
def run0 : State := { config0 with
  selector := { Selector.initial with current := some 0, forced := some 1 }
  output := { OutputUnit.initial with phase := .blanked, opState := .run, frameKind := .run } }

/-- The same in the active period of a RUN frame that holds slot 1 for camera 0. -/
def composing0 : State := { run0 with
  compositor := .composing 0 (0, 0) [] []
  pool := { pool0 with
    slots := [(1, .held 0 frameB false), (4, .filling 1)], ready := ⟨[], [], [], []⟩
    snapshot := ⟨some ⟨1, 800, 1280, 800, 512, 0⟩, none, none, none⟩ }
  output := { run0.output with phase := .active } }

/-- A state with its clock SETTLING in an attempt of a kind for format 2 since part time 0. -/
def settling0 (k : AttemptKind) (s : State) : State :=
  { s with output := { s.output with format := 2, clock := .settling k 2 0, phase := .none } }

theorem awaits_asking (s : State) (m : Message) (hi : s.mgmt.executor = .idle) (hr : s.mgmt.replies.length < 16) :
    (asking s m).Awaits m [] :=
  ⟨hi, rfl, hr⟩

/-! ## WellFormed: each check refuses an ill-formed command -/

theorem test_wellformed_request_of_class_signal : (Instr.requestArrival 0 ⟨2, 1, 0, 0, 0, 0, 0, []⟩).wellFormed = false := by decide
theorem test_wellformed_request_length : (Instr.requestArrival 0 ⟨1, 1, 0, 1, 0, 0, 0, []⟩).wellFormed = false := by decide
theorem test_wellformed_signal_of_class_request : (Instr.signalMessage 0 ⟨1, 1, 0, 2, 0, 0, 0, [1, 2]⟩).wellFormed = false := by decide
theorem test_wellformed_signal_length : (Instr.signalMessage 0 ⟨2, 1, 0, 2, 0, 0, 0, [1]⟩).wellFormed = false := by decide
theorem test_wellformed_accepts : (Instr.requestArrival 0 ⟨1, 9, 0, 1, 0, 0, 0, [2]⟩).wellFormed = true := by decide

/-! ## Messages and records (chapter 10) -/

/-- R183: class, kind, tag, length, target, sub-index, index low byte first, payload. -/
theorem test_decodeMessage :
    decodeMessage [1, 3, 200, 0, 3, 2, 0x34, 0x12] = some ⟨1, 3, 200, 0, 3, 2, 0x1234, []⟩ ∧
      decodeMessage [1, 9, 7, 1, 0, 0, 0, 0, 2] = some ⟨1, 9, 7, 1, 0, 0, 0, [2]⟩ ∧
      decodeMessage [1, 9, 7, 2, 0, 0, 0, 0, 2] = none ∧ decodeMessage [1, 9, 7] = none := by decide

/-- R4's own figures: 1921 stored as 1920, 1279 as 1278, a freeze count of 1 as 2, and an offset of −300 as −256. -/
theorem test_camera_record_is_clamped :
    (clampWidth 1921, clampWidth 1279, clampFreeze 1, clampFreeze 0, clampInt (-256) 255 (-300)) = (1920, 1278, 2, 0, -256) := by decide

/-- A camera record laid out as R189 gives, with the defaults of R2. -/
theorem test_camera_record_layout : encodeCameraRecord (.initial 1) =
    [0, 5, 0x20, 3, 0, 100, 0, 250, 0, 4, 0b010100, 0, 0, 2, 0, 0, 4, 4, 5, 6, 7] := by decide +kernel

/-- R188's status packet right after power-on: format 0, CONFIG, LOCKED, no view in use, none forced, no candidate. -/
theorem test_status_packet_after_power_on : State.reset.statusPacket =
    [0, 0, 0, 0, 0, 0, 0, 0, 0, 0, 0, 255, 0, 255, 0, 0, 0, 0, 0, 0, 0, 0, 0, 0, 0, 0, 0, 0, 0, 0, 0, 0, 0, 0, 0, 0, 0] := by
  decide +kernel

/-- R178: camera 2's CAM_SKIPPED is latch 14, and zone 5's ZONE_FALL is latch 31. -/
theorem test_latch_numbers : (Latch.camSkipped 2).number = 14 ∧ (Latch.zoneFall 5).number = 31 := by decide

/-! ## Ingest -/

/-- R14's table at its bounds. -/
theorem test_interval_classes :
    [15899, 15900, 17400, 17401, 19000, 21000, 32000, 34700, 38500, 41500, 41501].map intervalClass =
      [.out, .c60, .c60, .out, .c50, .c50, .c30, .c30, .c25, .c25, .out] := by decide

/-- Open 9 of the worked example: the second interval outside class 30 degrades the channel. -/
theorem test_cadence_lost :
    Channel.cadenceStep 0 1296750 { Channel.initial 0 with
      state := .live, cadence := ⟨some 1256650, some .c25, 1, some .c30, 1⟩ } =
    ({ Channel.initial 0 with
      state := .degraded, reasons := ⟨true, false⟩, cadence := ⟨some 1296750, some .c25, 2, none, 0⟩ }, [.camDegraded 0]) := by
  decide +kernel

/-- Open 11 of the worked example: a run of 4 of class 25 is adopted and the channel is LIVE again. -/
theorem test_cadence_regained :
    Channel.cadenceStep 0 1376650 { Channel.initial 0 with
      state := .degraded, reasons := ⟨true, false⟩, cadence := ⟨some 1336650, some .c25, 3, none, 0⟩ } =
    ({ Channel.initial 0 with
      state := .live, cadence := ⟨some 1376650, some .c25, 4, some .c25, 0⟩ }, [.camRecovered 0]) := by decide +kernel

/-- The damaged frame's camera: 64 × 64, a filling frame in slot 9. -/
def damaged (f : FillingFrame) : State := { State.reset with
  channels := { State.reset.channels with cam2 := { Channel.initial 2 with
    record := { CameraRecord.initial 2 with width := 64, height := 64 }
    state := .live, cadence := ⟨some 0, some .c30, 4, some .c30, 0⟩, lossTimer := some 0, filling := some f } }
  pool := { State.reset.pool with slots := [(9, .filling 2)] } }

/-- A flat line of luma 400. -/
def flat : List Pixel := List.replicate 64 ⟨400, 512, 512⟩

/-- LINE 3 of the worked example: line 2 is a copy of line 1, line 3 its own samples, the expected line becomes 4. -/
theorem test_line_missing :
    let s := after (.line 5 2 3 (.perPixel flat) true) (damaged ⟨9, 17, 2, some 1, 2, 0, 3200⟩)
    (s.channel 2).filling = some ⟨9, 17, 4, some 3, 3, 0, 3200⟩ ∧ s.pool.readLine 9 3 64 = flat := by decide +kernel

/-- LINE 0 is written and summed: 8 samples of 400 (R9). -/
theorem test_line_signature :
    ((after (.line 5 2 0 (.perPixel flat) true) (damaged ⟨9, 17, 0, none, 0, 0, 0⟩)).channel 2).filling =
      some ⟨9, 17, 1, some 0, 1, 0, 3200⟩ := by decide +kernel

/-- LINE 70 and a repeated LINE 3: LONG and ORDER, nothing written. -/
theorem test_line_long_and_order :
    ((after (.line 5 2 70 (.perPixel flat) true) (damaged ⟨9, 17, 5, some 4, 5, 0, 0⟩)).channel 2).filling =
        some ⟨9, 17, 5, some 4, 6, 0b000010, 0⟩ ∧
      ((after (.line 5 2 3 (.perPixel flat) true) (damaged ⟨9, 17, 4, some 3, 3, 0, 0⟩)).channel 2).filling =
        some ⟨9, 17, 4, some 3, 4, 0b001000, 0⟩ := by decide +kernel

/-- The FRAME_CLOSE of the worked example: SHORT and CLAIM join, the frame is discarded, slot 9 goes FREE. -/
theorem test_frame_close_discards :
    let s := after (.frameClose 5 2 64) (damaged ⟨9, 17, 41, some 40, 42, 0b001110, 19200⟩)
    (s.channel 2).filling = none ∧ (s.channel 2).counters.discarded = 1 ∧ (s.channel 2).counters.completed = 0 ∧
      s.pool.slot 9 = .free := by decide +kernel

/-- Had the keep mask held all six flags, the frame would have completed. -/
theorem test_frame_close_completes :
    let d := damaged ⟨9, 17, 41, some 40, 42, 0b001110, 19200⟩
    let s := after (.frameClose 5 2 64) { d with channels := { d.channels with cam2 := { d.channels.cam2 with
      record := { d.channels.cam2.record with keepMask := 0b111111 } } } }
    s.pool.slot 9 = .ready 2 ⟨2, 17, 0, 5, 41, 0b011111, 19200⟩ false ∧ s.pool.ready.get 2 = [9] := by decide +kernel

/-- A flag of the halt mask halts the channel (R11). -/
theorem test_frame_close_halts :
    let d := damaged ⟨9, 17, 41, some 40, 42, 0b001110, 19200⟩
    let s := after (.frameClose 5 2 64) { d with channels := { d.channels with cam2 := { d.channels.cam2 with
      record := { d.channels.cam2.record with haltMask := 0b000001 } } } }
    (s.channel 2).state = .halted ∧ s.pool.slot 9 = .free ∧ s.mgmt.latches = BitVec.twoPow 43 11 := by decide +kernel

/-- A LINK_DOWN takes the channel to LOST and frees its slots (R21, R23). -/
theorem test_link_down :
    let s := after (.linkDown 5 0) run0
    (s.channel 0).state = .lost ∧ s.pool.slot 0 = .free ∧ s.pool.slot 1 = .free ∧ s.pool.slot 4 = .filling 1 ∧
      s.pool.ready.get 0 = [] ∧ s.mgmt.latches = BitVec.twoPow 43 0 := by decide +kernel

/-- A held slot is orphaned and stays HELD (R23, R38). -/
theorem test_loss_orphans : (after (.lossTimerExpiry 250000 0) composing0).pool.slot 1 = .held 0 frameB true ∧
    after (.lossTimerExpiry 249999 0) composing0 = { composing0 with partTime := 249999 } := by decide +kernel

/-- A FRAME_OPEN in LOST takes the lowest FREE slot of the list (R22, R33). -/
theorem test_frame_open_wakes :
    let s := after (.frameOpen 5 2 44) run0
    (s.channel 2).state = .acquiring ∧ (s.channel 2).filling = some ⟨8, 44, 0, none, 0, 0, 0⟩ ∧ s.pool.slot 8 = .filling 2 := by
  decide +kernel

/-- With one listed slot, HELD, a FRAME_OPEN is skipped (R35); READY, it is overwritten (R34). -/
def oneSlot (s : State) : State := { s with channels := { s.channels with cam0 := { s.channels.cam0 with
  record := { s.channels.cam0.record with slotList := [1] } } } }

theorem test_frame_open_skips :
    let s := after (.frameOpen 33300 0 44) (oneSlot composing0)
    (s.channel 0).filling = none ∧ (s.channel 0).counters.skipped = 1 ∧ s.mgmt.latches = BitVec.twoPow 43 4 ∧
      s.pool = composing0.pool := by decide +kernel

theorem test_frame_open_overwrites :
    let start := oneSlot { run0 with pool := { pool0 with slots := [(1, .ready 0 frameB false)], ready := ⟨[1], [], [], []⟩ } }
    let s := after (.frameOpen 33300 0 44) start
    (s.channel 0).filling = some ⟨1, 44, 0, none, 0, 0, 0⟩ ∧ (s.channel 0).counters.overwritten = 1 ∧ s.pool.ready.get 0 = [] := by
  decide +kernel

/-- A frame cut off with no line is discarded by GAP and its slot restarts (R13). -/
theorem test_gap_discards :
    let s := after (.frameOpen 33300 1 45) run0
    (s.channel 1).filling = some ⟨4, 45, 0, none, 0, 0, 0⟩ ∧ (s.channel 1).counters.discarded = 1 ∧ s.pool = run0.pool := by
  decide +kernel

/-! ## Output frames and the clock -/

/-- R42: a start in RUN holds the newest frame, supersedes the older, and records it. -/
theorem test_run_start_holds :
    let s := after (.outputFrameStart 16667) run0
    s.pool.slot 1 = .held 0 frameB false ∧ s.pool.slot 0 = .free ∧ (s.channel 0).counters.superseded = 1 ∧
      s.pool.snapshot.get 0 = some ⟨1, 800, 1280, 800, 512, 0⟩ ∧ s.pool.snapshot.get 1 = none := by decide +kernel

/-- The forced view becomes current, the change is latched, and composition begins (R92, R123, R125). -/
theorem test_run_start_view :
    let s := after (.outputFrameStart 16667) run0
    s.selector.current = some 1 ∧ member s.mgmt.latches 36 = true ∧ s.output.frameCounter = 1 ∧ s.output.phase = .active := by
  decide +kernel

/-- A start one µs early, or in the active period, changes nothing but part time. -/
theorem test_start_not_due : after (.outputFrameStart 16666) run0 = { run0 with partTime := 16666 } ∧
    after (.outputFrameStart 16667) composing0 = { composing0 with partTime := 16667 } := by decide +kernel

/-- The frame done of a black frame closes the active period and settles nothing (R53). -/
theorem test_config_frame_done :
    let s := after (.frameDone 15010) { config0 with output := { config0.output with phase := .active } }
    s.output.phase = .done ∧ s.pool = config0.pool ∧ s.monitor = config0.monitor := by decide +kernel

/-- The settling of a composed frame's slots (R44): retained, freed for a later frame, freed as an orphan. -/
theorem test_settling :
    (composing0.pool.settle.slot 1, composing0.pool.settle.ready.get 0) = (Slot.ready 0 frameB false, [1]) ∧
      Pool.slot (Pool.settle { composing0.pool with ready := ⟨[2], [], [], []⟩ }) 1 = .free ∧
      Pool.slot (Pool.settle { composing0.pool with slots := [(1, .held 0 frameB true)] }) 1 = .free := by decide +kernel

/-- A blanking sends the first 8 of 9 replies and leaves the ninth (R54). -/
theorem test_blanking :
    let r : Reply := ⟨7, 9, 0, .ok, []⟩
    let s := after (.blanking 16000) { config0 with
      output := { config0.output with phase := .done }, mgmt := { config0.mgmt with replies := List.replicate 9 r } }
    s.mgmt.replies = [r] ∧ s.port.replies = List.replicate 8 [7, 9, 0, 0, 0] ∧ s.port.status.length = 37 ∧
      s.output.phase = .blanked := by decide +kernel

/-- The FORMAT attempt of the worked example that fails: format 0, LOCK_FAIL latched and answered (R59). -/
theorem test_format_attempt_expires :
    let s0 := settling0 .format config0
    let s := after (.formatLockExpiry 20000) { s0 with mgmt := { s0.mgmt with executor := .attempt (request 9 7 0 0 0 [2]) } }
    s.output.format = 0 ∧ s.output.clock = .locked ∧ s.mgmt.latches = BitVec.twoPow 43 39 ∧
      s.mgmt.replies = [⟨7, 9, 0, .lockFail, []⟩] ∧ s.mgmt.executor = .idle := by decide +kernel

/-- The same attempt when the PLL locks (R58). -/
theorem test_format_attempt_locks :
    let s0 := settling0 .format config0
    let s := after (.lockEventFormat 6500) { s0 with mgmt := { s0.mgmt with executor := .attempt (request 9 7 0 0 0 [2]) } }
    s.output.format = 2 ∧ s.output.clock = .locked ∧ s.mgmt.replies = [⟨7, 9, 0, .ok, []⟩] := by decide +kernel

/-- A RELOCK attempt in RUN: a lock keeps RUN and the format (R62); an expiry falls to CONFIG and carries out a pending swap (R63). -/
theorem test_relock_locks :
    let s := after (.lockEventRelock 5500) (settling0 .relock run0)
    s.output.format = 2 ∧ s.output.clock = .locked ∧ s.output.opState = .run := by decide +kernel

theorem test_relock_expires :
    let s0 := settling0 .relock run0
    let s := after (.relockExpiry 20000) { s0 with overlay := { s0.overlay with swapPending := true } }
    s.output.opState = .config ∧ s.output.format = 0 ∧ s.selector.current = none ∧ s.overlay.active = .b ∧
      s.overlay.swapPending = false ∧ s.selector.forced = some 1 := by decide +kernel

/-- An unlock before the blanking stops output, keeps RUN and the view in use (R61, R76); in format 0 it has no effect (R50). -/
theorem test_unlock :
    let s0 := { run0 with output := { run0.output with format := 2, phase := .done } }
    let s := after (.unlockEvent 9) s0
    s.output.clock = .settling .relock 2 9 ∧ s.output.opState = .run ∧ s.selector = run0.selector ∧
      s.mgmt.latches = BitVec.twoPow 43 40 ∧ after (.unlockEvent 9) run0 = { run0 with partTime := 9 } := by decide +kernel

/-- FORMAT in CONFIG begins an attempt, in RUN is BAD_STATE, above 3 is MALFORMED (R56, R57). -/
theorem test_format :
    (after (.format 9) (asking config0 (request 9 7 0 0 0 [2]))).output.clock = .settling .format 2 9 ∧
      answers .format run0 (request 9 7 0 0 0 [2]) .badState [] = true ∧ answers .format run0 (request 9 7 0 0 0 [0]) .ok [] = true ∧
      answers .format config0 (request 9 7 0 0 0 [4]) .malformed [] = true ∧
      answers .format config0 (request 9 7 0 0 0 [3, 3]) .malformed [] = true := by decide +kernel

/-- RUN is accepted where every VALID grid fits (R67), and refused for a grid, for the default view, in SETTLING, in RUN (R66). -/
theorem test_run :
    (after (.run 9) (asking config0 (request 10 7 0 0 0 []))).output.opState = .run ∧
      answers .run (config0.setView 7 (viewOf .valid 40 25)) (request 10 7 0 0 0 []) .gridMismatch [] = true ∧
      answers .run State.reset (request 10 7 0 0 0 []) .incomplete [] = true ∧
      answers .run (settling0 .relock config0) (request 10 7 0 0 0 []) .busy [] = true ∧
      answers .run run0 (request 10 7 0 0 0 []) .badState [] = true := by decide +kernel

/-- RESTART with a full reply queue: CONFIG, every slot FREE, the LOADING views EMPTY, no reply, and the frame in progress still a RUN frame
(R52, R69, R90, R170, R172). -/
theorem test_restart :
    let s0 := { run0 with mgmt := { run0.mgmt with replies := List.replicate 16 ⟨7, 9, 0, .ok, []⟩ } }
    let s := after (.restart 9) (asking s0 (request 11 7 0 0 0 []))
    s.output.opState = .config ∧ s.output.frameKind = .run ∧ s.output.restartCount = 1 ∧ s.pool.slots = [] ∧ (s.view 2).state = .empty ∧
      (s.view 0).state = .valid ∧ s.mgmt = .initial ∧ s.selector.forced = none := by decide +kernel

/-- POWER_ON from a running part is the state after reset (R70). -/
theorem test_power_on : after .powerOn run0 = State.reset := by decide +kernel

/-! ## Messages -/

/-- The 17th waiting request is dropped, counted and latched (R169). -/
theorem test_arrival_dropped :
    let m := request 1 7 0 0 0 []
    let s := after (.requestArrival 9 m) { State.reset with mgmt := { State.reset.mgmt with requests := List.replicate 16 m } }
    s.mgmt.requests.length = 16 ∧ s.mgmt.requestDrops = 1 ∧ s.mgmt.latches = BitVec.twoPow 43 41 ∧
      (after (.requestArrival 9 m) State.reset).mgmt.requests = [m] := by decide +kernel

/-- R115: a steering angle of 600 is stored as 450, a GEAR of 4 is dropped. -/
theorem test_signal :
    (after (.signalMessage 9 ⟨2, 1, 0, 2, 0, 0, 0, [0x58, 2]⟩) run0).selector.signals.steer = ⟨.current, 450, 9⟩ ∧
      (after (.signalMessage 9 ⟨2, 1, 0, 2, 0, 0, 0, [0xFF, 0xFF]⟩) run0).selector.signals.steer = ⟨.current, -1, 9⟩ ∧
      (after (.signalMessage 9 ⟨2, 3, 0, 1, 0, 0, 0, [4]⟩) run0).mgmt.signalDrops = 1 := by decide +kernel

/-- Undefined class, kind, target, view action and length are MALFORMED (R168, R184). -/
theorem test_malformed :
    answers .undefinedRequest run0 ⟨3, 1, 7, 0, 0, 0, 0, []⟩ .malformed [] = true ∧
      answers .undefinedRequest run0 (request 12 7 0 0 0 []) .malformed [] = true ∧
      answers .undefinedRequest run0 (request 3 7 13 0 0 []) .malformed [] = true ∧
      answers .undefinedRequest run0 (request 4 7 0 0 0 [5, 0]) .malformed [] = true ∧
      answers .statusRead run0 (request 1 7 0 0 0 [0]) .malformed [] = true ∧
      answers .tableReadOverlayElement run0 (request 3 7 4 2 0 []) .malformed [] = true := by decide +kernel

/-- The executor waits while the reply queue is full (R170). -/
theorem test_executor_waits :
    let s0 := asking { run0 with mgmt := { run0.mgmt with replies := List.replicate 16 ⟨7, 9, 0, .ok, []⟩ } } (request 1 7 0 0 0 [])
    after (.statusRead 9) s0 = { s0 with partTime := 9 } := by decide +kernel

/-- STATUS_READ (R175, R188): 14 bytes of status, 40 of camera counters, 4 of drop counters. -/
theorem test_status_read : answers .statusRead State.reset (request 1 7 0 0 0 [])
    .ok ([0, 0, 0, 0, 9, 0, 0, 0, 0, 0, 0, 0, 0, 0] ++ List.replicate 44 0) = true := by decide +kernel

/-- Reads at the ends of their tables (R74, R140, R174, R175). -/
theorem test_reads :
    answers .tableReadCameraRecord run0 (request 3 7 1 0 1 []) .ok
        [0, 5, 0x20, 3, 0, 100, 0, 250, 0, 4, 0b010100, 0, 0, 2, 0, 0, 4, 4, 5, 6, 7] = true ∧
      answers .tableReadCameraRecord run0 (request 3 7 1 0 4 []) .badIndex [] = true ∧
      answers .tableReadViewHeader run0 (request 3 7 2 0 6 []) .ok
        [2, 1, 64, 0, 0, 2, 0, 2, 64, 0, 0, 2, 0, 2, 0, 0, 0, 1, 1] = true ∧
      answers .tableReadTile run0 (request 3 7 3 6 1023 []) .ok
        ([15, 15] ++ List.replicate 32 0 ++ [0, 1, 0, 1, 0, 1, 0, 1, 0]) = true ∧
      answers .tableReadTile run0 (request 3 7 3 8 0 []) .badIndex [] = true ∧
      answers .tableReadSpriteChunk run0 (request 3 7 6 1 16383 [1]) .ok [0] = true ∧
      answers .tableReadSpriteChunk run0 (request 3 7 6 1 16383 [2]) .badIndex [] = true ∧
      answers .tableReadCounters run0 (request 3 7 12 0 4 []) .ok [0, 0, 0, 0] = true ∧
      answers .tableReadCounters run0 (request 3 7 12 0 5 []) .badIndex [] = true := by decide +kernel

/-- The other reads: the cleared element, palette entry, band and rule, the settings, the zone, the timeouts (R118, R119, R136, R153). -/
theorem test_reads_cleared :
    answers .tableReadOverlayElement run0 (request 3 7 4 0 63 []) .ok
        [0, 0, 0, 0, 0, 0, 0, 0, 0, 0, 0, 0, 1, 0, 0, 0, 1, 0, 1, 0, 0, 0, 0, 0] = true ∧
      answers .tableReadPaletteEntry run0 (request 3 7 5 0 15 []) .ok [0, 0, 0, 0, 0, 0, 0] = true ∧
      answers .tableReadPathBand run0 (request 3 7 7 1 30 []) .ok (List.replicate 57 0) = true ∧
      answers .tableReadRule run0 (request 3 7 8 0 15 []) .ok [0, 15, 15, 0, 0, 0, 0, 0, 0, 0, 0, 0, 0, 0, 0, 0, 0] = true ∧
      answers .tableReadSelectionSettings run0 (request 3 7 9 0 0 []) .ok [0, 44, 1] = true ∧
      answers .tableReadZoneRecord run0 (request 3 7 10 0 7 []) .ok
        [0, 0, 0, 0, 0, 0, 24, 0, 3, 2, 220, 5, 4, 0, 0, 0, 0, 0, 0, 0, 0] = true ∧
      answers .tableReadSignalTimeouts run0 (request 3 7 11 0 0 []) .ok
        ([44, 1, 44, 1, 232, 3, 232, 3, 232, 3] ++ List.replicate 35 0) = true := by decide +kernel

/-! ## Writes -/

/-- A camera record's tests in order (R3), and its storing whole after clamping (R4). -/
def recordBytes (slots : List Byte) : List Byte :=
  [0x81, 7, 0, 0, 4, 0, 0, 0xFF, 0xFF, 1, 63, 0, 0xFF, 0xFF, 0xD4, 0xFE] ++ slots

theorem test_write_camera_record :
    does .tableWriteCameraRecord run0 (request 2 7 1 0 3 (recordBytes [2, 15, 12, 0, 0]))
        (fun s => s.setChannel 3 { Channel.initial 3 with
          record := ⟨1920, 64, .c60, 20, 2000, 2, 63, 0, 1023, -256, [15, 12]⟩ })
        .ok [128, 7, 64, 0, 4, 20, 0, 208, 7, 2, 63, 0, 255, 3, 0, 255, 2, 15, 12, 0, 0] = true ∧
      answers .tableWriteCameraRecord run0 (request 2 7 1 0 4 (recordBytes [2, 15, 12, 0, 0])) .badIndex [] = true ∧
      answers .tableWriteCameraRecord run0 (request 2 7 1 0 3 (recordBytes [2, 15, 15, 0, 0])) .malformed [] = true ∧
      answers .tableWriteCameraRecord run0 (request 2 7 1 0 0 (recordBytes [2, 15, 12, 0, 0])) .locked [] = true ∧
      answers .tableWriteCameraRecord run0 (request 2 7 1 0 3 (recordBytes [1, 4, 0, 0, 0])) .conflict [] = true ∧
      answers .tableWriteCameraRecord (run0.setPool (pool0.setSlot 12 (.held 3 frameA true)))
        (request 2 7 1 0 3 (recordBytes [1, 13, 0, 0, 0])) .busy [] = true := by decide +kernel

/-- A header and a tile are taken in LOADING and refused with LOCKED elsewhere (R79, R80). -/
def headerBytes (hatch : Byte) : List Byte := [0, 26] ++ [0xFF, 0xFF, 0, 2, 0, 2, 64, 0, 0, 2, 0, 2] ++ [hatch, 7, 0]

theorem test_write_header :
    does .tableWriteViewHeader run0 (request 2 7 2 0 2 (headerBytes 1))
        (fun s => s.setView 2 { viewOf .loading 1 1 with header := ⟨1, 25, ⟨1023, 512, 512⟩, black, true, 7⟩ })
        .ok [1, 25, 255, 3, 0, 2, 0, 2, 64, 0, 0, 2, 0, 2, 1, 7, 0] = true ∧
      answers .tableWriteViewHeader run0 (request 2 7 2 0 0 (headerBytes 1)) .locked [] = true ∧
      answers .tableWriteViewHeader run0 (request 2 7 2 0 0 (headerBytes 2)) .malformed [] = true ∧
      answers .tableWriteViewHeader run0 (request 2 7 2 0 8 (headerBytes 1)) .badIndex [] = true := by decide +kernel

def tileBytes (primary : Byte) : List Byte := [primary, 15] ++ List.replicate 32 0xFF ++ [1, 1, 0, 1, 0, 0, 0, 0]

theorem test_write_tile :
    let m := request 2 7 3 2 1023 (tileBytes 3)
    let s := after (.tableWriteTile 9) (asking run0 m)
    (Table.read TileRecord.cleared (s.view 2).tiles 1023).weights = ⟨256, 256, 0, 0⟩ ∧
      (Table.read TileRecord.cleared (s.view 2).tiles 1023).primaryCorners.c11 = ⟨32767, 32767⟩ ∧
      (s.view 2).written = [(0, true), (1023, true)] ∧
      answers .tableWriteTile run0 (request 2 7 3 2 0 (tileBytes 4)) .malformed [] = true ∧
      answers .tableWriteTile run0 (request 2 7 3 0 0 (tileBytes 3)) .locked [] = true ∧
      answers .tableWriteTile run0 (request 2 7 3 2 1024 (tileBytes 3)) .badIndex [] = true := by decide +kernel

/-- The overlay targets (R138, R139): the inactive bank is B. -/
def elementBytes (kind palette : Byte) : List Byte :=
  [kind, 5, 7, 1, 0, 0xF0, 0xFF, 0x7F, 0xFF, 0xFF, 0, 0, 0, palette, 0xFF, 0xFF, 0, 0, 0, 2, 15, 255, 16, 16]

theorem test_write_element :
    let s := after (.tableWriteOverlayElement 9) (asking run0 (request 2 7 4 1 63 (elementBytes 3 15)))
    s.overlay.bankB.element 63 =
        ⟨.sprite, .body 7, true, -1024, 2047, 2047, 0, 1, 15, 16383, 1, 256, 15, 255, 16, 16⟩ ∧ s.overlay.bankA = .cleared ∧
      answers .tableWriteOverlayElement run0 (request 2 7 4 0 63 (elementBytes 3 15)) .locked [] = true ∧
      answers .tableWriteOverlayElement run0 (request 2 7 4 1 63 (elementBytes 5 15)) .malformed [] = true ∧
      answers .tableWriteOverlayElement run0 (request 2 7 4 1 63 (elementBytes 5 16)) .badIndex [] = true ∧
      answers .tableWriteOverlayElement run0 (request 2 7 4 1 64 (elementBytes 3 15)) .badIndex [] = true := by decide +kernel

theorem test_write_palette :
    does .tableWritePaletteEntry run0 (request 2 7 5 1 15 [0xFF, 0xFF, 0, 2, 0, 2, 17])
        (fun s => s.setOverlay { s.overlay with bankB := { Bank.cleared with palette := [(15, ⟨⟨1023, 512, 512⟩, 16⟩)] } })
        .ok [255, 3, 0, 2, 0, 2, 16] = true ∧
      answers .tableWritePaletteEntry run0 (request 2 7 5 1 16 [0, 0, 0, 0, 0, 0, 0]) .badIndex [] = true := by decide +kernel

theorem test_write_sprite :
    does .tableWriteSpriteChunk run0 (request 2 7 6 1 16382 [5, 6])
        (fun s => s.setOverlay { s.overlay with bankB := { Bank.cleared with sprites := [(16382, 5), (16383, 6)] } })
        .ok [254, 63, 2] = true ∧
      answers .tableWriteSpriteChunk run0 (request 2 7 6 1 16383 [5, 6]) .badIndex [] = true ∧
      answers .tableWriteSpriteChunk run0 (request 2 7 6 1 0 []) .malformed [] = true := by decide +kernel

theorem test_write_band :
    let bytes (count : Byte) : List Byte := [count, 0xFF, 0xFF, 1, 4, 0, 0xFC, 0xFF, 7] ++ List.replicate 48 0
    does .tableWritePathBand run0 (request 2 7 7 1 30 (bytes 1))
        (fun s => s.setOverlay { s.overlay with bankB := { Bank.cleared with bands := [(30, [⟨-1, 1024, -1024, 2047⟩])] } })
        .ok ([1, 0xFF, 0xFF, 0, 4, 0, 0xFC, 0xFF, 7] ++ List.replicate 48 0) = true ∧
      answers .tableWritePathBand run0 (request 2 7 7 1 30 (bytes 8)) .malformed [] = true ∧
      answers .tableWritePathBand run0 (request 2 7 7 1 31 (bytes 1)) .badIndex [] = true := by decide +kernel

/-- R120, R126, R118. -/
def ruleBytes (enable target : Byte) : List Byte :=
  [enable, 8, 15, 1, 0, 0, 0xFF, 0xFF, 0, 1, 2, 3, 4, 1, 1, target, 1]

theorem test_write_rule :
    does .tableWriteRule run0 (request 2 7 8 0 15 (ruleBytes 1 7))
        (fun s => s.setSelector { s.selector with rules := [(15, ⟨true, 8, 15, .range 0 1500, .any, 1, 1, 7, true⟩)] })
        .ok [1, 8, 15, 1, 0, 0, 0xDC, 5, 0, 0, 0, 0, 0, 1, 1, 7, 1] = true ∧
      answers .tableWriteRule run0 (request 2 7 8 0 15 (ruleBytes 2 8)) .badIndex [] = true ∧
      answers .tableWriteRule run0 (request 2 7 8 0 15 (ruleBytes 2 7)) .malformed [] = true ∧
      answers .tableWriteRule run0 (request 2 7 8 0 16 (ruleBytes 1 7)) .badIndex [] = true := by decide +kernel

theorem test_write_settings :
    does .tableWriteSelectionSettings run0 (request 2 7 9 0 0 [1, 0xFF, 0xFF])
        (fun s => s.setSelector { s.selector with defaultView := 1, dwell := 2000 }) .ok [1, 0xD0, 7] = true ∧
      answers .tableWriteSelectionSettings run0 (request 2 7 9 0 0 [8, 0, 0]) .badIndex [] = true ∧
      answers .tableWriteSelectionSettings run0 (request 2 7 9 0 0 [3, 0, 0]) .badState [] = true := by decide +kernel

theorem test_write_timeouts :
    does .tableWriteSignalTimeouts run0 (request 2 7 11 0 0 [99, 0, 100, 0, 0xFF, 0xFF, 0xD0, 7, 0, 1])
      (fun s => s.setSelector { s.selector with timeouts := ⟨100, 100, 2000, 2000, 256⟩ })
      .ok [100, 0, 100, 0, 0xD0, 7, 0xD0, 7, 0, 1] = true := by decide +kernel

/-- R154, R156: a write makes an enabled zone active in RUN; R174: the counters are not written. -/
theorem test_write_zone :
    does .tableWriteZoneRecord run0 (request 2 7 10 0 7 [1, 40, 39, 25, 24, 1, 0xFF, 0xFF, 0, 16, 0xFF, 0xFF, 9])
        (fun s => s.setMonitor { s.monitor with zones := [(7, ⟨⟨true, 39, 39, 24, 24, 1, 1023, 1, 15, 5000, 8⟩, .settling 8, 0⟩)] })
        .ok [1, 39, 39, 24, 24, 1, 255, 3, 1, 15, 136, 19, 8] = true ∧
      answers .tableWriteZoneRecord run0 (request 2 7 10 0 7 [2, 0, 0, 0, 0, 0, 0, 0, 0, 0, 0, 0, 0]) .malformed [] = true ∧
      answers .tableWriteZoneRecord run0 (request 2 7 10 0 8 [1, 0, 0, 0, 0, 0, 0, 0, 0, 0, 0, 0, 0]) .badIndex [] = true ∧
      answers .tableWriteCounters run0 (request 2 7 12 0 4 []) .badState [] = true ∧
      answers .tableWriteCounters run0 (request 2 7 12 0 5 []) .badIndex [] = true := by decide +kernel

/-! ## View requests, the force, swaps, cameras and latches -/

/-- VIEW_OPEN FRESH (R77, R85): an EMPTY view, a forced one, the default view in RUN, a LOADING one, BAD_INDEX before MALFORMED. -/
theorem test_view_open_fresh :
    does .viewOpenFresh run0 (request 4 7 0 0 0 [1, 5, 0])
        (fun s => s.setView 5 { View.initial with state := .loading }) .ok [] = true ∧
      does .viewOpenFresh run0 (request 4 7 0 0 0 [1, 1, 0])
        (fun s => ((s.setView 1 { viewOf .loading 25 15 with headerWritten := false, written := [] }).setSelector
          { s.selector with forced := none }).latched .forceReleased) .ok [] = true ∧
      answers .viewOpenFresh run0 (request 4 7 0 0 0 [1, 0, 0]) .badState [] = true ∧
      answers .viewOpenFresh run0 (request 4 7 0 0 0 [1, 2, 0]) .badState [] = true ∧
      answers .viewOpenFresh run0 (request 4 7 0 0 0 [1, 8, 2]) .badIndex [] = true ∧
      answers .viewOpenFresh run0 (request 4 7 0 0 0 [1, 5, 2]) .malformed [] = true := by decide +kernel

/-- The reload of the worked sequence: a WITHDRAWN view still in use is BUSY, in either mode (R77, R78). -/
theorem test_view_open_edit :
    let busy := { run0 with selector := { run0.selector with current := some 3 } }
    does .viewOpenEdit run0 (request 4 7 0 0 0 [1, 3, 1]) (fun s => s.setView 3 (viewOf .loading 25 15)) .ok [] = true ∧
      answers .viewOpenEdit busy (request 4 7 0 0 0 [1, 3, 1]) .busy [] = true ∧
      answers .viewOpenFresh busy (request 4 7 0 0 0 [1, 3, 0]) .busy [] = true ∧
      answers .viewOpenEdit run0 (request 4 7 0 0 0 [1, 5, 1]) .badState [] = true := by decide +kernel

/-- VIEW_CLOSE (R81): in CONFIG no grid is tested; in RUN it is; an unwritten tile is named with the completeness items. -/
theorem test_view_close :
    does .viewClose config0 (request 4 7 0 0 0 [2, 2]) (fun s => s.setView 2 (viewOf .valid 1 1)) .ok [] = true ∧
      answers .viewClose run0 (request 4 7 0 0 0 [2, 2]) .gridMismatch [] = true ∧
      answers .viewClose run0 (request 4 7 0 0 0 [2, 6]) .incomplete [1, 1, 0, 1, 0] = true ∧
      answers .viewClose run0 (request 4 7 0 0 0 [2, 0]) .badState [] = true ∧
      answers .viewClose (run0.setView 2 { viewOf .loading 1 1 with headerWritten := false }) (request 4 7 0 0 0 [2, 2])
        .incomplete [0, 0, 0, 0, 4] = true := by decide +kernel

theorem test_view_withdraw_and_restore :
    does .viewWithdraw run0 (request 4 7 0 0 0 [3, 1])
        (fun s => ((s.setView 1 (viewOf .withdrawn 25 15)).setSelector { s.selector with forced := none }).latched .forceReleased)
        .ok [] = true ∧
      answers .viewWithdraw run0 (request 4 7 0 0 0 [3, 0]) .badState [] = true ∧
      does .viewWithdraw config0 (request 4 7 0 0 0 [3, 0]) (fun s => s.setView 0 (viewOf .withdrawn 25 15)) .ok [] = true ∧
      does .viewRestore run0 (request 4 7 0 0 0 [4, 3]) (fun s => s.setView 3 (viewOf .valid 25 15)) .ok [] = true ∧
      answers .viewRestore run0 (request 4 7 0 0 0 [4, 4]) .gridMismatch [] = true ∧
      answers .viewRestore run0 (request 4 7 0 0 0 [4, 2]) .badState [] = true := by decide +kernel

theorem test_view_force :
    does .viewForce run0 (request 7 7 0 0 0 [0]) (fun s => s.setSelector { s.selector with forced := some 0 }) .ok [] = true ∧
      answers .viewForce run0 (request 7 7 0 0 0 [3]) .badState [] = true ∧
      answers .viewForce run0 (request 7 7 0 0 0 [8]) .badIndex [] = true ∧
      does .viewForceRelease run0 (request 7 7 0 0 0 [255]) (fun s => s.setSelector { s.selector with forced := none }) .ok []
        = true := by decide +kernel

/-- OVERLAY_SWAP (R141, R142) and the pending swap carried out at the next start in RUN (R143). -/
theorem test_overlay_swap :
    let pend := run0.setOverlay { run0.overlay with swapPending := true }
    does .overlaySwap run0 (request 5 7 0 0 0 []) (fun s => s.setOverlay { s.overlay with swapPending := true }) .accepted [] = true ∧
      answers .overlaySwap pend (request 5 7 0 0 0 []) .busy [] = true ∧
      does .overlaySwap config0 (request 5 7 0 0 0 []) (fun s => s.setOverlay { s.overlay with active := .b }) .ok [] = true ∧
      (after (.outputFrameStart 16667) pend).overlay = { Overlay.initial with active := .b } := by decide +kernel

/-- CAMERA_CONTROL (R24 to R26). -/
theorem test_camera_control :
    does .cameraEnable run0 (request 6 7 0 0 0 [3, 1]) (fun s => s.setChannel 3
        { Channel.initial 3 with state := .acquiring, lossTimer := some 9 }) .ok [] = true ∧
      answers .cameraEnable run0 (request 6 7 0 0 0 [0, 1]) .badState [] = true ∧
      answers .cameraEnable run0 (request 6 7 0 0 0 [4, 9]) .badIndex [] = true ∧
      answers .cameraEnable run0 (request 6 7 0 0 0 [3, 9]) .malformed [] = true ∧
      answers .cameraRestart run0 (request 6 7 0 0 0 [3, 3]) .badState [] = true ∧
      answers .cameraDisable run0 (request 6 7 0 0 0 [3, 2]) .ok [] = true := by decide +kernel

theorem test_camera_disable_and_restart :
    does .cameraDisable run0 (request 6 7 0 0 0 [0, 2])
        (fun s => (s.setPool { pool0 with slots := [(4, .filling 1)], ready := ⟨[], [], [], []⟩ }).setChannel 0
          { channels0.cam0 with state := .off, lossTimer := none }) .ok [] = true ∧
      does .cameraRestart run0 (request 6 7 0 0 0 [1, 3])
        (fun s => (s.setPool { pool0 with slots := [(0, .ready 0 frameA false), (1, .ready 0 frameB false)] }).setChannel 1
          { Channel.initial 1 with state := .acquiring, lossTimer := some 9 }) .ok [] = true := by decide +kernel

/-- EVENT_TAKE (R180): latches 0, 8 and 42 set, 0 and 42 taken. -/
theorem test_event_take :
    let s0 := run0.setMgmt { run0.mgmt with latches := 0x40000000101 }
    does .eventTake s0 (request 8 7 0 0 0 [1, 0, 0, 0, 0, 4]) (fun s => s.setMgmt { s.mgmt with latches := 0x100 })
        .ok [1, 1, 0, 0, 0, 4] = true ∧
      answers .eventTake s0 (request 8 7 0 0 0 [0, 0, 0, 0, 0, 8]) .malformed [] = true := by decide +kernel

/-! ## Zones -/

/-- R163: the hold timer of 1500 ms. -/
theorem test_hold_timer :
    let z : Zone := ⟨.initial, .holding 7, 2⟩
    let s0 := run0.setMonitor ⟨[(3, z)], []⟩
    (after (.holdTimerExpiry 1500007 3) s0).monitor.zone 3 = ⟨.initial, .quiet, 2⟩ ∧
      (after (.holdTimerExpiry 1500007 3) s0).mgmt.latches = BitVec.twoPow 43 27 ∧
      after (.holdTimerExpiry 1500006 3) s0 = { s0 with partTime := 1500006 } := by decide +kernel

/-- Tile 655 of the cyclist's worked sequence: B 25,600, mean 352, k 4 gives 25,408; the rounding is toward minus infinity (R160). -/
theorem test_learning : learn 25600 352 4 = 25408 ∧ learn 25600 400 4 = 25600 ∧ learn 25601 400 8 = 25600 ∧
    learn 25599 400 8 = 25599 ∧ differs 352 24 25600 = true ∧ differs 376 24 25600 = false := by decide +kernel

/-- Zone 2 of the same sequence, and the moves out of ALERT and HOLDING (R161 to R163). -/
theorem test_zone_steps :
    let r : ZoneRecord := .initial
    (ZoneState.settling 8).step r 0 9 = .settling 7 ∧ (ZoneState.settling 1).step r 9 9 = .quiet ∧
      ZoneState.quiet.step r 1 9 = .quiet ∧ ZoneState.quiet.step r 4 9 = .confirming 1 ∧
      (ZoneState.confirming 1).step r 5 9 = .alert ∧ ZoneState.alert.step r 2 9 = .holding 9 ∧
      (ZoneState.holding 4).step r 3 9 = .alert ∧ (ZoneState.holding 4).step r 0 9 = .holding 4 ∧
      ZoneState.alert.step { r with holdTime := 0 } 0 9 = .quiet := by decide

/-! ## Selector -/

/-- The nearside turn: rule 3's view pending since S12 becomes current exactly 300,000 µs later (R124), not one µs before. -/
theorem test_dwell :
    let x : Selector := { Selector.initial with current := some 5, candidate := some ⟨3, 30200000⟩ }
    (x.dwellTest 30500000 3).current = some 3 ∧ x.dwellTest 30499999 3 = x ∧
      (x.dwellTest 30250000 0).candidate = some ⟨0, 30250000⟩ := by decide +kernel

/-- R122: a matching rule whose target is not VALID is passed over and reported. -/
theorem test_candidate :
    let r (target : ViewNo) (on : Bool) : Rule := { Rule.cleared with enable := true, target := target, immediate := on }
    let snap : SignalSnapshot := ⟨none, none, none, none, none⟩
    findCandidate (fun v => decide (v = 4)) snap 7 [.cleared, r 3 false, r 4 true] = ⟨4, true, true⟩ ∧
      findCandidate (fun v => decide (v = 4)) snap 7 [{ r 4 true with gearSet := 8 }] = ⟨7, false, false⟩ := by decide +kernel

/-! ## Arithmetic of the picture, by the worked examples of chapters 5 and 7 -/

theorem test_mesh : mesh ⟨8000, 8512, 8040, 8560⟩ 8 16 = 8149 ∧ mesh ⟨4800, 4816, 5312, 5328⟩ 8 16 = 5060 ∧
    mesh ⟨256, 128, 256, 128⟩ 8 16 = 224 ∧ mesh ⟨0, 32767, 0, 32767⟩ 31 31 = 31743 := by decide

theorem test_bilinear : bilinear 400 420 440 480 5 4 = 418 ∧ bilinear 500 504 508 516 5 4 = 504 := by decide

theorem test_matchLuma : matchLuma 418 563 (-6) = 447 ∧ matchLuma 418 512 0 = 418 ∧ matchLuma 1000 1023 0 = 1023 ∧
    matchLuma 40 512 (-60) = 0 ∧ matchLuma 1023 1023 255 = 1023 ∧ matchLuma 0 1023 (-256) = 0 ∧ matchLuma 7 0 100 = 164 := by
  decide +kernel

theorem test_blend : blendComponent 447 455 224 = 448 ∧ blendComponent 504 508 224 = 505 := by decide

/-- R147's table. -/
theorem test_bands : [-450, -16, -15, 14, 15, 220, 450].map bandOf = [0, 14, 15, 15, 16, 22, 30] := by decide

/-- The pixel of the draw-list example: 633 after element 2, 417 after element 9 (R148). -/
theorem test_mix : mixComponent 940 448 6 = 633 ∧ mixComponent 200 633 8 = 417 := by decide

/-! ## Witnesses: a state and operands that meet the hypotheses of each obligation, clause by clause -/

/-- A request waits in a small state, the executor may take it, and a further hypothesis on the state holds. -/
structure Meets (s0 : State) (m : Message) (c : State → Prop) : Prop where
  awaits : (asking s0 m).Awaits m []
  holds : c (asking s0 m)

theorem meets {s0 : State} {m : Message} {c : State → Prop} [DecidablePred c]
    (h : s0.mgmt.executor = .idle ∧ s0.mgmt.replies.length < 16 ∧ c (asking s0 m)) : Meets s0 m c :=
  ⟨awaits_asking s0 m h.1 h.2.1, h.2.2⟩

/-- The owner of a slot in each of its owned states. -/
def fillingOwner : Slot → Option Camera
  | .filling c => some c
  | _ => none
def readyOwner : Slot → Option Camera
  | .ready c _ _ => some c
  | _ => none
def heldOwner : Slot → Option Camera
  | .held c _ _ => some c
  | _ => none

/-- The owner of a HELD slot that is not marked orphaned. -/
def servedOwner : Slot → Option Camera
  | .held c _ false => some c
  | _ => none

theorem not_held {x : Slot} (h : heldOwner x = none) (c : Camera) (f : FrameRecord) (o : Bool) : x ≠ .held c f o := by
  intro e
  simp [e, heldOwner] at h

theorem holdsOneEach_of {p : Pool}
    (h : ∀ j k c, heldOwner (p.slot j) = some c → heldOwner (p.slot k) = some c → j = k) : p.HoldsOneEach := by
  intro j k c f g a b hj hk
  exact h j k c (by simp [hj, heldOwner]) (by simp [hk, heldOwner])

theorem slotsAgree_of {s : State}
    (h1 : ∀ k c, (s.pool.slot k).owner = some c → k ∈ (s.channel c).record.slotList)
    (h2 : ∀ k c d, k ∈ (s.channel c).record.slotList → k ∈ (s.channel d).record.slotList → c = d)
    (h3 : ∀ k c, fillingOwner (s.pool.slot k) = some c ↔ (s.channel c).filling.map FillingFrame.slot = some k)
    (h4 : ∀ k c, k ∈ s.pool.ready.get c ↔ readyOwner (s.pool.slot k) = some c) (h5 : ∀ c, (s.pool.ready.get c).Nodup)
    (h6 : ∀ j k c, heldOwner (s.pool.slot j) = some c → heldOwner (s.pool.slot k) = some c → j = k)
    (h7 : ∀ k, heldOwner (s.pool.slot k) = none ∨ s.compositor ≠ .idle)
    (h8 : ∀ c, (s.channel c).ingests = false → s.pool.ready.get c = [] ∧ (s.channel c).filling = none)
    (h9 : ∀ k c, servedOwner (s.pool.slot k) = some c → (s.channel c).ingests = true) : s.SlotsAgree := by
  refine ⟨h1, fun c d k => h2 k c d, fun k c => ?_, fun k c => ?_, h5, holdsOneEach_of h6, fun k c f o hk => ?_,
    fun k c f hk => h9 k c (by simp [hk, servedOwner]), h8⟩
  · rw [← Option.map_eq_some_iff, ← h3 k c]
    cases s.pool.slot k <;> simp [fillingOwner]
  · rw [h4 k c]
    cases s.pool.slot k <;> simp [readyOwner]
  · rcases h7 k with h | h
    · simp [hk, heldOwner] at h
    · cases hc : s.compositor with
      | idle => exact absurd hc h
      | composing v p m r => exact ⟨v, p, m, r, rfl⟩

/-! ### The machine, ingest and the pool -/

theorem witness_StepExecutesTheFrontCommand :
    ({ run0 with pending := [.powerOn] } : State).pending = Instr.powerOn :: [] ∧ run0.pending = [] := ⟨rfl, rfl⟩

/-- The channel of camera c in a state. -/
def inState (c : Camera) (st : ChannelState) : State := run0.setChannel c { run0.channel c with state := st }

theorem witness_MarksOutOfServiceAreIgnored :
    (run0.channel 3).state = .off ∧ ((inState 3 .halted).channel 3).state = .halted ∧ (run0.channel 2).state = .lost ∧
      (run0.channel 0).filling = none ∧ (run0.channel 0).ingests = true := by decide +kernel

theorem witness_FrameOpenAllocatesByTheOrder :
    (∀ s ∈ [run0, oneSlot run0, oneSlot composing0], (s.channel 0).ingests = true ∧ (s.channel 0).filling = none) := by
  decide +kernel

theorem witness_FrameOpenWakesALostCamera :
    (run0.channel 2).state = .lost ∧ (run0.channel 2).cadence = .cleared ∧ 8 ∈ (run0.channel 2).record.slotList ∧
      run0.pool.slot 8 = .free ∧ (∀ j ∈ (run0.channel 2).record.slotList, run0.pool.slot j = .free → (8 : SlotNo) ≤ j) ∧
      let s := run0.setPool (pool0.mapSlots fun _ => .held 2 frameA true)
      (s.channel 2).state = .lost ∧ (s.channel 2).cadence = .cleared ∧
        (∀ j ∈ (s.channel 2).record.slotList, s.pool.slot j ≠ .free) ∧ s.pool.ready.get 2 = [] := by
  decide +kernel

/-- The flag set of the frame of `damaged` ended by GAP with no line missing, and the three outcomes it may have. -/
theorem witness_GapEndsTheFillingFrame :
    let f : FillingFrame := ⟨9, 17, 64, some 63, 64, 0, 3200⟩
    let s := damaged f
    let masked (keep halt : FlagSet) := s.setChannel 2 { s.channel 2 with
      record := { (s.channel 2).record with keepMask := keep, haltMask := halt } }
    (s.channel 2).ingests = true ∧ (s.channel 2).filling = some f ∧
      (0b100000#6 : FlagSet) =
        (f.flags ||| 0b100000#6) ||| (if f.validLines < (s.channel 2).record.height ∨ f.highest = none then 0b000001#6 else 0) ∧
      0b100000#6 &&& ((masked 63 32).channel 2).record.haltMask ≠ 0 ∧
      (0b100000#6 &&& (s.channel 2).record.haltMask = 0 ∧ 0b100000#6 &&& ~~~ (s.channel 2).record.keepMask ≠ 0) ∧
      (0b100000#6 &&& ((masked 63 0).channel 2).record.haltMask = 0 ∧
        0b100000#6 &&& ~~~ ((masked 63 0).channel 2).record.keepMask = 0 ∧ f.highest ≠ none) ∧
      (8 ∈ (s.channel 2).record.slotList ∧ (8 : SlotNo) ≠ f.slot ∧ s.pool.slot 8 = .free ∧
        ∀ j ∈ (s.channel 2).record.slotList, j ≠ f.slot → s.pool.slot j = .free → (8 : SlotNo) ≤ j) ∧
      ∀ j ∈ [f.slot], j ≠ f.slot → s.pool.slot j ≠ .free := by decide +kernel

theorem witness_LineMarkIsWrittenOrDiscarded :
    let f : FillingFrame := ⟨9, 17, 63, some 62, 63, 0, 0⟩
    let s := damaged f
    (s.channel 2).ingests = true ∧ (s.channel 2).filling = some f ∧
      (s.channel 2).record.height ≤ (64 : BitVec 16).toNat ∧
      ((62 : BitVec 16).toNat < (s.channel 2).record.height ∧ (62 : BitVec 16).toNat < f.expected) ∧
      ((63 : BitVec 16).toNat < (s.channel 2).record.height ∧ (s.channel 2).record.height ≤ 1080 ∧
        (63 : BitVec 16).toNat = f.expected ∧ flat.length = (s.channel 2).record.width) := by decide +kernel

theorem witness_MissingAndBadLinesAreConcealed :
    (∀ f ∈ [(⟨9, 17, 0, none, 0, 0, 0⟩ : FillingFrame), ⟨9, 17, 2, some 1, 2, 0, 3200⟩],
      ((damaged f).channel 2).ingests = true ∧ ((damaged f).channel 2).filling = some f ∧
      (63 : BitVec 16).toNat < ((damaged f).channel 2).record.height ∧ ((damaged f).channel 2).record.height ≤ 1080 ∧
      f.expected ≤ (63 : BitVec 16).toNat) ∧
    (∀ h, (⟨9, 17, 2, some 1, 2, 0, 3200⟩ : FillingFrame).highest = some h → h < 2) ∧
    flat.length = ((damaged ⟨9, 17, 2, some 1, 2, 0, 3200⟩).channel 2).record.width ∧ flat.tail.length ≠ 64 := by
  refine ⟨by decide +kernel, ?_, by decide +kernel, by decide +kernel⟩
  intro h e
  cases e
  decide

theorem witness_FrameCloseDecidesTheOutcome :
    let f : FillingFrame := ⟨9, 17, 64, some 63, 64, 0b000100, 0⟩
    let g : FillingFrame := ⟨9, 17, 0, none, 0, 0, 0⟩
    let flagsOf (x : FillingFrame) (height : Nat) (claimed : BitVec 16) : FlagSet :=
      (x.flags ||| (if x.validLines < height ∨ x.highest = none then 0b000001#6 else 0)) |||
        (if claimed.toNat = x.received then 0 else 0b010000#6)
    let r := ((damaged f).channel 2).record
    ((damaged f).channel 2).ingests = true ∧ ((damaged f).channel 2).filling = some f ∧
      ((damaged g).channel 2).filling = some g ∧
      (flagsOf f 64 64 = 0b000100 ∧ flagsOf f 64 64 &&& r.haltMask = 0 ∧ flagsOf f 64 64 &&& ~~~ r.keepMask = 0 ∧ f.highest ≠ none) ∧
      (flagsOf g 64 1 = 0b010001 ∧ flagsOf g 64 1 &&& r.haltMask = 0 ∧ flagsOf g 64 1 &&& ~~~ r.keepMask ≠ 0) ∧
      flagsOf f 64 64 &&& ({ r with haltMask := 4 } : CameraRecord).haltMask ≠ 0 := by decide +kernel

theorem witness_CameraLossLeavesService :
    (run0.channel 0).ingests = true ∧ (run0.channel 0).lossTimer = some 0 ∧
      (run0.channel 0).record.lossLimit * 1000 ≤ ((250000 : PartTime) - 0).toNat ∧
      ((249999 : PartTime) - 0).toNat < (run0.channel 0).record.lossLimit * 1000 := by decide +kernel

theorem witness_CameraControlActsOnTheChannel :
    Meets run0 (request 6 7 0 0 0 [byteOf 3, 1]) (fun s => (s.channel 3).state = .off) ∧
      Meets run0 (request 6 7 0 0 0 [byteOf 0, 1]) (fun s => (s.channel 0).state ≠ .off) ∧
      Meets run0 (request 6 7 0 0 0 [byteOf 3, 2]) (fun s => (s.channel 3).state = .off) ∧
      Meets run0 (request 6 7 0 0 0 [byteOf 0, 2]) (fun s => (s.channel 0).state ≠ .off) ∧
      Meets run0 (request 6 7 0 0 0 [byteOf 3, 3]) (fun s => (s.channel 3).state = .off) ∧
      Meets run0 (request 6 7 0 0 0 [byteOf 0, 3]) (fun s => (s.channel 0).state ≠ .off) ∧
      Meets run0 (request 6 7 0 0 0 [4, 1]) (fun _ => 3 < (4 : Byte).toNat) ∧
      Meets run0 (request 6 7 0 0 0 [4, 2]) (fun _ => 3 < (4 : Byte).toNat) ∧
      Meets run0 (request 6 7 0 0 0 [4, 3]) (fun _ => 3 < (4 : Byte).toNat) ∧
      (∀ b ∈ [(3 : Byte), 4], Meets run0 (request 6 7 0 0 0 [b, 0]) (fun _ => (0 : Byte) = 0)) ∧
      ∀ b ∈ [(3 : Byte), 4], Meets run0 (request 6 7 0 0 0 [b, 4]) (fun _ => 3 < (4 : Byte).toNat) := by
  refine ⟨?_, ?_, ?_, ?_, ?_, ?_, ?_, ?_, ?_, fun b _ => ⟨awaits_asking _ _ rfl (by decide +kernel), by decide⟩,
    fun b _ => ⟨awaits_asking _ _ rfl (by decide +kernel), by decide⟩⟩
  all_goals exact meets (by decide +kernel)

/-- A channel with a cadence tracker. -/
def tracked (st : ChannelState) (r : Reasons) (k : CadenceTracker) : Channel :=
  { Channel.initial 0 with state := st, reasons := r, cadence := k }

theorem witness_CadenceStepFollowsTheClasses :
    (tracked .acquiring .none .cleared).cadence.lastOpen = none ∧
      intervalClass ((33333 : PartTime) - 0).toNat = .c30 ∧ intervalClass ((40000 : PartTime) - 0).toNat = .c25 ∧
      (∀ ch ∈ [tracked .live .none ⟨some 0, some .c30, 9, some .c30, 0⟩, tracked .live .none ⟨some 0, some .c25, 1, some .c30, 1⟩,
          tracked .degraded ⟨false, true⟩ ⟨some 0, some .c25, 1, some .c30, 1⟩,
          tracked .acquiring .none ⟨some 0, some .c30, 2, none, 0⟩, tracked .acquiring .none ⟨some 0, some .c30, 3, none, 0⟩,
          tracked .degraded ⟨true, false⟩ ⟨some 0, some .c30, 3, none, 0⟩,
          tracked .degraded ⟨true, true⟩ ⟨some 0, some .c30, 3, none, 0⟩],
        ch.cadence.lastOpen = some 0 ∧ qualifies ch.record.cadence .c30 = true) := by decide +kernel

/-- A channel with a freeze tracker, its freeze count 4. -/
def frozenAt (st : ChannelState) (r : Reasons) (run : Nat) : Channel :=
  { Channel.initial 0 with state := st, reasons := r, freeze := ⟨some 31022, run⟩ }

theorem witness_FreezeCheckCountsEqualSignatures :
    (frozenAt .live .none 3).record.freezeCount ≠ 0 ∧
      (frozenAt .live .none 3).record.freezeCount ≤ (frozenAt .live .none 3).freeze.run + 1 ∧
      (frozenAt .live .none 2).freeze.run + 1 < (frozenAt .live .none 2).record.freezeCount ∧
      (frozenAt .degraded ⟨true, false⟩ 3).reasons = ⟨true, false⟩ ∧ (frozenAt .degraded ⟨false, true⟩ 5).reasons = ⟨false, true⟩ ∧
      (frozenAt .degraded ⟨true, true⟩ 5).freeze.previous = some 31022 ∧ (31022 : BitVec 16) ≠ 30877 ∧
      (frozenAt .acquiring .none 0).state = .acquiring ∧
      (frozenAt .degraded ⟨true, false⟩ 2).freeze.run + 1 < (frozenAt .degraded ⟨true, false⟩ 2).record.freezeCount ∧
      ((frozenAt .degraded ⟨false, true⟩ 5).reasons.frozen = true ∧ (frozenAt .degraded ⟨false, true⟩ 5).state = .degraded) ∧
      ({ Channel.initial 0 with record := { CameraRecord.initial 0 with freezeCount := 0 } } : Channel).record.freezeCount = 0 := by
  decide +kernel

theorem composing0_holds : composing0.pool.HoldsOneEach := holdsOneEach_of (by decide +kernel)

theorem witness_SettlingFreesOrRetains : composing0.pool.HoldsOneEach ∧ heldOwner (composing0.pool.slot 1) = some 0 :=
  ⟨composing0_holds, by decide +kernel⟩

/-! ### Output frames, the clock and the operating states -/

theorem witness_OutputFramesKeepTheirTimes :
    (settling0 .relock run0).output.clock ≠ .locked ∧ composing0.output.phase = .active ∧
      (run0.output.phase = .blanked ∧
        ((16666 : PartTime) - run0.output.startedAt).toNat < startInterval run0.output.format run0.output.groupPos) ∧
      ((15009 : PartTime) - composing0.output.startedAt).toNat < doneAfter composing0.output.format ∧
      run0.output.phase ≠ .active ∧ run0.output.phase ≠ .done := by decide +kernel

theorem witness_ConfigFrameStartShowsNothing :
    config0.output.clock = .locked ∧ config0.output.opState = .config ∧ State.reset.output.phase = .none ∧
      (config0.output.phase = .blanked ∧
        startInterval config0.output.format config0.output.groupPos ≤ ((16667 : PartTime) - config0.output.startedAt).toNat) := by
  decide +kernel

theorem run0_due : run0.output.clock = .locked ∧ run0.output.opState = .run ∧
    (run0.output.phase = .none ∨ run0.output.phase = .blanked ∧
      startInterval run0.output.format run0.output.groupPos ≤ ((16667 : PartTime) - run0.output.startedAt).toNat) := by
  decide +kernel

theorem run0_slotsAgree : run0.SlotsAgree := by
  apply slotsAgree_of <;> decide +kernel

theorem witness_RunFrameStartHoldsTheNewestFrames :
    (run0.output.clock = .locked ∧ run0.output.opState = .run ∧
      (run0.output.phase = .none ∨ run0.output.phase = .blanked ∧
        startInterval run0.output.format run0.output.groupPos ≤ ((16667 : PartTime) - run0.output.startedAt).toNat)) ∧
      run0.SlotsAgree ∧ (∀ k c f o, run0.pool.slot k ≠ .held c f o) ∧ run0.Usable 16667 0 1 frameB ∧
      ¬ ∃ k f, run0.Usable 16667 3 k f := by
  refine ⟨run0_due, run0_slotsAgree, fun k => not_held (by revert k; decide +kernel), ⟨?_, ?_, ?_, ?_, ?_⟩, ?_⟩
  · decide +kernel
  · decide +kernel
  · decide +kernel
  · decide +kernel
  · decide +kernel
  · rintro ⟨k, f, h⟩
    exact absurd h.serves (by decide +kernel)

/-- With no force standing, a rule ON with every condition ANY and an EMPTY target is skipped (R122). -/
theorem witness_RunFrameStartFixesTheView :
    (run0.output.clock = .locked ∧ run0.output.opState = .run ∧
      (run0.output.phase = .none ∨ run0.output.phase = .blanked ∧
        startInterval run0.output.format run0.output.groupPos ≤ ((16667 : PartTime) - run0.output.startedAt).toNat)) ∧
    let s := run0.setSelector { run0.selector with
      forced := none, rules := [(15, { Rule.cleared with enable := true, target := 5 })] }
    member (after (.outputFrameStart 16667) s).mgmt.latches 38 = true ∧
      member (after (.outputFrameStart 16667) run0).mgmt.latches 38 = false := ⟨run0_due, by decide +kernel⟩

/-- The same, with a zone in ALERT that the view in use leaves. -/
theorem witness_RunFrameStartArmsAndDraws :
    let s := run0.setMonitor ⟨[(3, ⟨{ ZoneRecord.initial with enable := true, viewMask := 1 }, .alert, 4⟩)], []⟩
    s.output.clock = .locked ∧ s.output.opState = .run ∧
      (s.output.phase = .none ∨ s.output.phase = .blanked ∧
        startInterval s.output.format s.output.groupPos ≤ ((16667 : PartTime) - s.output.startedAt).toNat) ∧
      (s.monitor.zone 3).state.marked = true ∧
      ((after (.outputFrameStart 16667) s).monitor.zone 3).state.marked = false := by decide +kernel

theorem witness_FrameDoneEndsTheFrame :
    (let s : State := { config0 with output := { config0.output with phase := .active } };
      s.output.phase = .active ∧ doneAfter s.output.format ≤ ((15010 : PartTime) - s.output.startedAt).toNat ∧
        s.compositor = .idle) ∧
    (composing0.output.phase = .active ∧ doneAfter composing0.output.format ≤ ((15010 : PartTime) - composing0.output.startedAt).toNat ∧
      composing0.compositor = .composing 0 (0, 0) [] [] ∧ 0 < (composing0.view 0).header.columns) ∧
    composing0.pool.HoldsOneEach :=
  ⟨by decide +kernel, by decide +kernel, composing0_holds⟩

theorem witness_BlankingSendsStatusAndReplies :
    (let s : State := { config0 with output := { config0.output with phase := .done } };
      s.output.phase = .done ∧ s.selector.current = none ∧ s.selector.candidate = none ∧ s.mgmt.replies.length ≤ 16) ∧
    let s : State := { run0 with
      output := { run0.output with phase := .done }, selector := { run0.selector with candidate := some ⟨1, 7⟩ } }
    s.output.phase = .done ∧ s.selector.current = some 0 ∧ s.selector.candidate = some ⟨1, 7⟩ := by decide +kernel

/-- Config0 in a FORMAT attempt for format 2 begun at part time 0. -/
def attempting0 : State :=
  { settling0 .format config0 with mgmt := { config0.mgmt with executor := .attempt (request 9 7 0 0 0 [2]) } }

theorem witness_LockAttemptsEnd :
    (attempting0.output.clock = .settling .format attempting0.output.format 0 ∧
      attempting0.mgmt.executor = .attempt (request 9 7 0 0 0 [2]) ∧ (request 9 7 0 0 0 [2]).kind = 9) ∧
    ((settling0 .relock run0).output.clock = .settling .relock (settling0 .relock run0).output.format 0 ∧
      (settling0 .relock run0).output.opState = .run ∧ (settling0 .relock config0).output.opState = .config) ∧
    20000 ≤ ((20000 : PartTime) - 0).toNat ∧ ((19999 : PartTime) - 0).toNat < 20000 ∧ run0.output.clock = .locked := by
  decide +kernel

theorem witness_UnlockBeginsARelockAttempt :
    let s := { composing0 with output := { composing0.output with format := 1 } }
    (run0.output.format = 0 ∧ (settling0 .relock run0).output.clock ≠ .locked) ∧
      (s.output.clock = .locked ∧ s.output.format ≠ 0 ∧ s.compositor ≠ .idle) ∧ s.pool.HoldsOneEach ∧ run0.compositor = .idle :=
  ⟨by decide +kernel, by decide +kernel, composing0_holds, rfl⟩

theorem witness_FormatActsByTheOperatingState :
    Meets run0 (request 9 7 0 0 0 [byteOf 3]) (fun s => s.output.opState = .run ∧
        ¬ ((3 : FormatNo) = 0 ∧ s.output.format = 0 ∧ s.output.clock = .locked)) ∧
      Meets run0 (request 9 7 0 0 0 [byteOf 0]) (fun s => (0 : FormatNo) = s.output.format ∧ s.output.clock = .locked) ∧
      Meets (settling0 .relock config0) (request 9 7 0 0 0 [byteOf 0]) (fun s => s.output.opState = .config ∧
        s.output.phase ≠ .active ∧ ¬ ((0 : FormatNo) = s.output.format ∧ s.output.clock = .locked)) ∧
      Meets config0 (request 9 7 0 0 0 [byteOf 3]) (fun s => s.output.opState = .config ∧ (3 : FormatNo) ≠ 0 ∧
        s.output.phase ≠ .active ∧ ¬ ((3 : FormatNo) = s.output.format ∧ s.output.clock = .locked)) ∧
      Meets { config0 with output := { config0.output with phase := .active } } (request 9 7 0 0 0 [byteOf 3])
        (fun s => s.output.opState = .config ∧ s.output.phase = .active ∧
          ¬ ((3 : FormatNo) = s.output.format ∧ s.output.clock = .locked) ∧ s.compositor = .idle) ∧
      Meets config0 (request 9 7 0 0 0 [4]) (fun _ => 3 < (4 : Byte).toNat) := by
  and_intros <;> exact meets (by decide +kernel)

theorem witness_RunIsTestedAndAccepted :
    let m := request 10 7 0 0 0 []
    let good (s : State) : Prop :=
      s.output.opState = .config ∧ s.output.clock = .locked ∧ (s.view s.selector.defaultView).state = .valid
    Meets run0 m (fun s => s.output.opState = .run) ∧
      Meets (settling0 .relock config0) m (fun s => s.output.opState = .config ∧ s.output.clock ≠ .locked) ∧
      Meets State.reset m (fun s => s.output.opState = .config ∧ s.output.clock = .locked ∧
        (s.view s.selector.defaultView).state ≠ .valid) ∧
      Meets (config0.setView 7 (viewOf .valid 40 25)) m (fun s => good s ∧
        ∃ v, (s.view v).state = .valid ∧ (s.view v).fitsGrid s.output.format = false) ∧
      Meets config0 m (fun s => good s ∧ ∀ v, (s.view v).state = .valid → (s.view v).fitsGrid s.output.format = true) := by
  refine ⟨meets (by decide +kernel), meets (by decide +kernel), meets (by decide +kernel), ?_, ?_⟩
  · exact ⟨awaits_asking _ _ rfl (by decide +kernel), by decide +kernel⟩
  · exact ⟨awaits_asking _ _ rfl (by decide +kernel), by decide +kernel⟩

theorem witness_RestartResetsTheBlocks :
    (asking run0 (request 11 7 0 0 0 [])).mgmt.executor = .idle ∧
      (asking run0 (request 11 7 0 0 0 [])).mgmt.requests = request 11 7 0 0 0 [] :: [] := ⟨rfl, rfl⟩

/-! ### Arrivals and the executor -/

theorem witness_RequestArrivalJoinsOrIsDropped :
    (request 1 7 0 0 0 []).cls ≠ 2 ∧
      ({ run0.mgmt with requests := List.replicate 15 (request 1 7 0 0 0 []) } : Management).requests.length < 16 ∧
      16 ≤ ({ run0.mgmt with requests := List.replicate 16 (request 1 7 0 0 0 []) } : Management).requests.length := by
  decide +kernel

theorem witness_SignalMessageIsAppliedOrDropped :
    (3 : Byte).toNat = Gear.reverse.code ∧ (3 : Byte).toNat = Indicator.hazard.code ∧
      (∀ m ∈ [(⟨2, 0, 7, 0, 0, 0, 0, []⟩ : Message), ⟨2, 6, 7, 0, 0, 0, 0, []⟩, ⟨2, 2, 7, 1, 0, 0, 0, [1]⟩,
          ⟨2, 5, 7, 2, 0, 0, 0, [1, 1]⟩, ⟨2, 4, 7, 1, 0, 0, 0, [4]⟩],
        m.cls = 2 ∧ (m.kind = 0 ∨ 5 < m.kind.toNat ∨ (m.kind = 1 ∨ m.kind = 2) ∧ m.length ≠ 2 ∨
          (m.kind = 3 ∨ m.kind = 4 ∨ m.kind = 5) ∧ m.length ≠ 1 ∨ (m.kind = 3 ∨ m.kind = 4) ∧ 3 < (m.payload.getD 0 0).toNat)) := by
  decide +kernel

theorem witness_MalformedRequestsAreRefused :
    Meets run0 (request 1 7 0 0 0 [0]) (fun _ => wholeMessageOk (request 1 7 0 0 0 [0]) = false) ∧
      Meets run0 ⟨0, 1, 7, 0, 0, 0, 0, []⟩ (fun _ => (0 : Byte) ≠ 1) ∧
      Meets run0 (request 12 7 0 0 0 []) (fun _ => 11 < (12 : Byte).toNat) ∧
      Meets run0 (request 3 7 13 0 0 []) (fun _ => 12 < (13 : Byte).toNat) ∧
      Meets run0 (request 3 7 7 2 0 []) (fun _ => 4 ≤ (7 : Byte).toNat ∧ (7 : Byte).toNat ≤ 7 ∧ 1 < (2 : Byte).toNat) ∧
      (∀ action ∈ [(0 : Byte), 5], Meets run0 (request 4 7 0 0 0 [action, 0]) (fun _ =>
        u8 [action, 0] 0 = 0 ∨ 4 < u8 [action, 0] 0)) ∧
      Meets run0 (request 2 7 1 0 0 [0]) (fun _ => (1, 1) ∉ [(1, 21), (2, 17), (3, 42), (4, 24), (5, 7), (7, 57), (8, 17), (9, 3),
        (10, 13), (11, 10), (12, 0)]) ∧
      (∀ n ∈ [0, 65], Meets run0 (request 2 7 6 0 0 (List.replicate n 0)) (fun s => s.mgmt.requests.length = 1)) ∧
      Meets run0 (request 3 7 6 0 0 []) (fun _ => (request 3 7 6 0 0 []).length.toNat ≠ 1) ∧
      Meets run0 (request 3 7 1 0 0 [0]) (fun _ => (request 3 7 1 0 0 [0]).length.toNat ≠ 0) ∧
      Meets run0 (request 4 7 0 0 0 [1, 0]) (fun _ => (request 4 7 0 0 0 [1, 0]).length.toNat ≠ 3) ∧
      Meets run0 (request 4 7 0 0 0 [2, 0, 0]) (fun _ => (request 4 7 0 0 0 [2, 0, 0]).length.toNat ≠ 2) ∧
      Meets run0 (request 9 7 0 0 0 []) (fun _ => (request 9 7 0 0 0 []).length ≠ 1) ∧
      Meets run0 (request 6 7 0 0 0 [0, 1, 0]) (fun _ => (request 6 7 0 0 0 [0, 1, 0]).length ≠ 2) ∧
      Meets run0 (request 8 7 0 0 0 [0, 0, 0, 0, 0]) (fun _ => (request 8 7 0 0 0 [0, 0, 0, 0, 0]).length ≠ 6) := by
  refine ⟨?_, ?_, ?_, ?_, ?_, fun a ha => ⟨awaits_asking _ _ rfl (by decide +kernel), ?_⟩, ?_,
    fun n _ => ⟨awaits_asking _ _ rfl (by decide +kernel), rfl⟩, ?_⟩
  case refine_6 =>
    revert a
    decide
  all_goals and_intros <;> exact meets (by decide +kernel)

theorem witness_TheExecutorWaits :
    attempting0.mgmt.executor ≠ .idle ∧ run0.mgmt.requests = [] ∧ requestRow (request 1 7 0 0 0 []) ≠ .run ∧
      16 ≤ ({ run0.mgmt with replies := List.replicate 16 ⟨7, 9, 0, .ok, []⟩ } : Management).replies.length ∧
      ¬ ((request 1 7 0 0 0 []).cls = 1 ∧ (request 1 7 0 0 0 []).kind = 11 ∧ (request 1 7 0 0 0 []).length = 0) := by
  decide +kernel

/-! ### Reads and writes -/

theorem witness_ReadsChangeNothing :
    (∀ target ∈ [(1 : Byte), 2, 3, 4, 5, 7, 8, 9, 10, 11, 12], ∀ index ∈ [(0 : BitVec 16), 1023, 1024],
      Meets run0 (request 3 7 target 1 index []) fun _ => True) ∧
      Meets run0 (request 1 7 0 0 0 []) (fun _ => True) ∧
      Meets run0 (request 3 7 1 0 3 []) (fun _ => (3 : BitVec 16).toNat = (3 : Camera).val) ∧
      Meets run0 (request 3 7 1 0 4 []) (fun _ => 3 < (4 : BitVec 16).toNat) ∧
      Meets run0 (request 3 7 3 7 1023 []) (fun _ => (7 : Byte).toNat = (7 : ViewNo).val ∧ (1023 : BitVec 16).toNat < 1024) ∧
      Meets run0 (request 3 7 6 1 16320 [64]) (fun _ => (16320 : BitVec 16).toNat + (64 : Byte).toNat ≤ 16384) ∧
      Meets run0 (request 3 7 6 1 16321 [64]) (fun _ => 16384 < (16321 : BitVec 16).toNat + (64 : Byte).toNat) ∧
      Meets run0 (request 3 7 12 0 4 []) (fun _ => (4 : BitVec 16).toNat = 4) := by
  refine ⟨fun target _ index _ => ⟨awaits_asking _ _ rfl (by decide +kernel), trivial⟩, ?_⟩
  and_intros <;> exact meets (by decide +kernel)

/-- The record that `recordBytes` with the slots 15 and 12 is read as. -/
def record12 : CameraRecord := ⟨1920, 64, .c60, 20, 2000, 2, 63, 0, 1023, -256, [15, 12]⟩

theorem witness_CameraRecordWriteIsTestedInOrder :
    let p := recordBytes [2, 15, 12, 0, 0]
    let held := run0.setPool (pool0.setSlot 12 (.held 3 frameA true))
    p.length = 21 ∧ readCameraRecord p = .ok record12 ∧
      Meets run0 (request 2 7 1 0 4 p) (fun _ => 3 < (4 : BitVec 16).toNat) ∧
      Meets run0 (request 2 7 1 0 3 (recordBytes [0, 0, 0, 0, 0])) (fun _ => u8 (recordBytes [0, 0, 0, 0, 0]) 16 = 0) ∧
      Meets run0 (request 2 7 1 0 0 p) (fun s => (s.channel 0).state ≠ .off) ∧
      Meets held (request 2 7 1 0 3 p) (fun s => (s.channel 3).state = .off ∧ 12 ∈ (s.channel 3).record.slotList ∧
        s.pool.slot 12 = .held 3 frameA true) ∧
      Meets run0 (request 2 7 1 0 3 p) (fun s => (s.channel 3).state = .off ∧
        (∀ k ∈ (s.channel 3).record.slotList, heldOwner (s.pool.slot k) = none) ∧
        ∀ k ∈ record12.slotList, ∀ d, d ≠ 3 → k ∉ (s.channel d).record.slotList) ∧
      ∃ r, readCameraRecord (recordBytes [1, 4, 0, 0, 0]) = .ok r ∧ 4 ∈ r.slotList ∧ 4 ∈ (run0.channel 1).record.slotList := by
  refine ⟨by decide, by decide +kernel, meets (by decide +kernel), meets (by decide +kernel), meets (by decide +kernel),
    meets (by decide +kernel), meets (by decide +kernel), ⟨{ record12 with slotList := [4] }, by decide +kernel⟩⟩

theorem witness_ViewWritesNeedALoadingView :
    let h := headerBytes 1
    let b := tileBytes 3
    h.length = 17 ∧ b.length = 42 ∧
      Meets run0 (request 2 7 2 0 8 h) (fun _ => 7 < (8 : BitVec 16).toNat) ∧
      Meets run0 (request 2 7 2 0 7 (headerBytes 2)) (fun _ => 1 < u8 (headerBytes 2) 14) ∧
      Meets run0 (request 2 7 2 0 0 h) (fun s => u8 h 14 ≤ 1 ∧ (s.view 0).state ≠ .loading) ∧
      Meets run0 (request 2 7 2 0 2 h) (fun s =>
        readViewHeader h = .ok ⟨1, 25, ⟨1023, 512, 512⟩, black, true, 7⟩ ∧ (s.view 2).state = .loading) ∧
      Meets run0 (request 2 7 3 8 0 b) (fun _ => 7 < (8 : Byte).toNat) ∧
      Meets run0 (request 2 7 3 2 1024 b) (fun _ => 1023 < (1024 : BitVec 16).toNat) ∧
      Meets run0 (request 2 7 3 2 0 (tileBytes 4)) (fun _ => 3 < u8 (tileBytes 4) 0 ∧ u8 (tileBytes 4) 0 ≠ 15) ∧
      Meets run0 (request 2 7 3 2 1023 b) (fun s => (s.view 2).state = .loading) ∧
      Meets run0 (request 2 7 3 0 1023 b) (fun s => (s.view 0).state ≠ .loading) ∧
      ∃ r, readTile b = .ok r := by
  refine ⟨by decide, by decide, meets (by decide +kernel), meets (by decide +kernel), meets (by decide +kernel),
    meets (by decide +kernel), meets (by decide +kernel), meets (by decide +kernel), meets (by decide +kernel),
    meets (by decide +kernel), meets (by decide +kernel), ⟨_, rfl⟩⟩

theorem witness_OverlayWritesReachTheInactiveBank :
    let band (count : Byte) : List Byte := count :: List.replicate 56 0
    let chunk : List Byte := List.replicate 64 5
    (elementBytes 3 15).length = 24 ∧ (band 7).length = 57 ∧
      Meets run0 (request 2 7 4 1 64 (elementBytes 3 15)) (fun _ => 63 < (64 : BitVec 16).toNat) ∧
      Meets run0 (request 2 7 4 1 63 (elementBytes 5 15)) (fun _ => readElement (elementBytes 5 15) = .error .malformed) ∧
      Meets run0 (request 2 7 4 1 63 (elementBytes 3 16)) (fun _ => 15 < u8 (elementBytes 3 16) 13) ∧
      Meets run0 (request 2 7 4 1 63 (elementBytes 5 15)) (fun _ => u8 (elementBytes 5 15) 13 ≤ 15 ∧
        u8 (elementBytes 5 15) 20 ≤ 15 ∧ u8 (elementBytes 5 15) 1 = 5 ∧ 4 < u8 (elementBytes 5 15) 0) ∧
      Meets run0 (request 2 7 4 1 63 (elementBytes 3 15)) (fun s => ¬ (BankId.b = s.overlay.active ∨ s.overlay.swapPending = true)) ∧
      Meets run0 (request 2 7 4 0 63 (elementBytes 3 15)) (fun s => BankId.a = s.overlay.active) ∧
      Meets run0 (request 2 7 5 1 16 (List.replicate 7 0)) (fun _ => 15 < (16 : BitVec 16).toNat) ∧
      Meets run0 (request 2 7 5 1 15 (List.replicate 7 0)) (fun _ => (15 : BitVec 16).toNat ≤ 15) ∧
      Meets run0 (request 2 7 6 1 16321 chunk) (fun _ => 16384 < (16321 : BitVec 16).toNat + chunk.length) ∧
      Meets run0 (request 2 7 6 1 16320 chunk) (fun _ => (16320 : BitVec 16).toNat + chunk.length ≤ 16384) ∧
      Meets run0 (request 2 7 7 1 31 (band 7)) (fun _ => 30 < (31 : BitVec 16).toNat) ∧
      Meets run0 (request 2 7 7 1 30 (band 8)) (fun _ => 7 < u8 (band 8) 0) ∧
      Meets run0 (request 2 7 7 1 30 (band 7)) (fun _ => (30 : BitVec 16).toNat ≤ 30) ∧
      (∃ e, readElement (elementBytes 3 15) = .ok e) ∧ ∃ l, readBand (band 7) = .ok l := by
  refine ⟨by decide, by decide, meets (by decide +kernel), meets (by decide +kernel), meets (by decide +kernel),
    meets (by decide +kernel), meets (by decide +kernel), meets (by decide +kernel), meets (by decide +kernel),
    meets (by decide +kernel), meets (by decide +kernel), meets (by decide +kernel), meets (by decide +kernel),
    meets (by decide +kernel), meets (by decide +kernel), ⟨_, rfl⟩, ⟨_, rfl⟩⟩

theorem witness_SelectorWritesAreTestedAndStored :
    (ruleBytes 1 7).length = 17 ∧ (∃ r, readRule (ruleBytes 1 7) = .ok r) ∧
      (u8 (ruleBytes 1 7) 15 ≤ 7 ∧ u8 (ruleBytes 1 7) 0 ≤ 1 ∧ u8 (ruleBytes 1 7) 16 ≤ 1 ∧ u8 (ruleBytes 1 7) 3 = 1 ∧
        u8 (ruleBytes 1 7) 8 = 0) ∧ u8 ((ruleBytes 1 7).set 8 1) 8 = 1 ∧
      Meets run0 (request 2 7 8 0 16 (ruleBytes 1 7)) (fun _ => 15 < (16 : BitVec 16).toNat) ∧
      Meets run0 (request 2 7 8 0 15 (ruleBytes 1 8)) (fun _ => 7 < u8 (ruleBytes 1 8) 15) ∧
      Meets run0 (request 2 7 8 0 15 (ruleBytes 2 7)) (fun _ => u8 (ruleBytes 2 7) 15 ≤ 7 ∧ 1 < u8 (ruleBytes 2 7) 0) ∧
      Meets run0 (request 2 7 8 0 15 (ruleBytes 1 7)) (fun _ => (15 : BitVec 16).toNat ≤ 15) ∧
      Meets run0 (request 2 7 9 0 0 [8, 0, 0]) (fun _ => 7 < u8 [8, 0, 0] 0) ∧
      Meets run0 (request 2 7 9 0 0 [7, 0, 0]) (fun s => u8 [7, 0, 0] 0 = (7 : ViewNo).val ∧ s.output.opState = .run ∧
        (s.view 7).state ≠ .valid) ∧
      Meets config0 (request 2 7 9 0 0 [7, 0, 0]) (fun s => s.output.opState = .config) ∧
      Meets run0 (request 2 7 11 0 0 (List.replicate 10 0)) (fun _ => (List.replicate 10 (0 : Byte)).length = 10) := by
  refine ⟨by decide, ⟨_, rfl⟩, by decide, by decide, ?_⟩
  and_intros <;> exact meets (by decide +kernel)

/-- A 13-byte zone record with every view in its mask. -/
def zoneBytes (enable : Byte) : List Byte := [enable, 0, 9, 0, 9, 255, 24, 0, 3, 2, 220, 5, 4]

/-- Run0 with zone 7 in ALERT. -/
def alert0 : State := run0.setMonitor ⟨[(7, ⟨{ ZoneRecord.initial with enable := true, viewMask := 255 }, .alert, 4⟩)], []⟩

theorem witness_ZoneRecordWriteSettlesActivity :
    (zoneBytes 1).length = 13 ∧
      readZoneRecord (zoneBytes 1) = .ok ⟨true, 0, 9, 0, 9, 255, 24, 3, 2, 1500, 4⟩ ∧
      readZoneRecord (zoneBytes 0) = .ok ⟨false, 0, 9, 0, 9, 255, 24, 3, 2, 1500, 4⟩ ∧
      Meets run0 (request 2 7 10 0 8 (zoneBytes 1)) (fun _ => 7 < (8 : BitVec 16).toNat) ∧
      Meets run0 (request 2 7 10 0 7 (zoneBytes 2)) (fun _ => 1 < u8 (zoneBytes 2) 0) ∧
      Meets run0 (request 2 7 10 0 7 (zoneBytes 1)) (fun s => s.output.opState = .run ∧ s.selector.current = some 0 ∧
        member (255 : Byte) 0 = true ∧ (s.monitor.zone 7).state.marked = false) ∧
      Meets alert0 (request 2 7 10 0 7 (zoneBytes 1)) (fun s => s.output.opState = .run ∧ s.selector.current = some 0 ∧
        (s.monitor.zone 7).state.marked = true) ∧
      Meets config0 (request 2 7 10 0 7 (zoneBytes 1)) (fun s => s.output.opState ≠ .run ∧ (s.monitor.zone 7).state.marked = false) ∧
      Meets alert0 (request 2 7 10 0 7 (zoneBytes 0)) (fun s => (s.monitor.zone 7).state.marked = true) ∧
      Meets run0 (request 2 7 12 0 4 []) (fun _ => ¬ 4 < (4 : BitVec 16).toNat) ∧
      Meets run0 (request 2 7 12 0 5 []) (fun _ => 4 < (5 : BitVec 16).toNat) := by
  refine ⟨by decide, by decide +kernel, by decide +kernel, ?_⟩
  and_intros <;> exact meets (by decide +kernel)

/-! ### Views, the force, swaps and latches -/

/-- Run0 with view 3, which is WITHDRAWN, still in use. -/
def busy0 : State := { run0 with selector := { run0.selector with current := some 3 } }

theorem witness_ViewOpenActsByTheViewState :
    Meets run0 (request 4 7 0 0 0 [1, byteOf 2, 0]) (fun s => (s.view 2).state = .loading) ∧
      Meets run0 (request 4 7 0 0 0 [1, byteOf 0, 0]) (fun s => (s.view 0).state = .valid ∧ s.selector.current = some 0) ∧
      Meets busy0 (request 4 7 0 0 0 [1, byteOf 3, 0]) (fun s => (s.view 3).state = .withdrawn ∧ s.selector.current = some 3) ∧
      Meets run0 (request 4 7 0 0 0 [1, byteOf 5, 0]) (fun s => (s.view 5).state = .empty ∧ s.selector.forced ≠ some 5) ∧
      Meets run0 (request 4 7 0 0 0 [1, byteOf 1, 0]) (fun s => (s.view 1).state = .valid ∧ s.selector.current ≠ some 1 ∧
        ¬ (1 = s.selector.defaultView ∧ s.output.opState = .run) ∧ s.selector.forced = some 1) ∧
      Meets run0 (request 4 7 0 0 0 [1, byteOf 7, 1]) (fun s => (s.view 7).state ≠ .withdrawn) ∧
      Meets busy0 (request 4 7 0 0 0 [1, byteOf 3, 1]) (fun s => (s.view 3).state = .withdrawn ∧ s.selector.current = some 3) ∧
      Meets run0 (request 4 7 0 0 0 [1, byteOf 3, 1]) (fun s => (s.view 3).state = .withdrawn ∧ s.selector.current ≠ some 3) ∧
      Meets run0 (request 4 7 0 0 0 [1, 8, 0]) (fun _ => 7 < (8 : Byte).toNat) ∧
      Meets run0 (request 4 7 0 0 0 [1, 8, 1]) (fun _ => 7 < (8 : Byte).toNat) ∧
      Meets run0 (request 4 7 0 0 0 [1, 7, 2]) (fun _ => (7 : Byte).toNat ≤ 7 ∧ 1 < (2 : Byte).toNat) := by
  and_intros <;> exact meets (by decide +kernel)

theorem witness_ViewCloseNeedsAWholeView :
    Meets run0 (request 4 7 0 0 0 [2, byteOf 7]) (fun s => (s.view 7).state ≠ .loading) ∧
      Meets run0 (request 4 7 0 0 0 [2, byteOf 6]) (fun s => (s.view 6).state = .loading ∧
        1 < (s.view 6).header.columns * (s.view 6).header.rows ∧ Table.read false (s.view 6).written 1 = false) ∧
      Meets run0 (request 4 7 0 0 0 [2, byteOf 2]) (fun s => (s.view 2).state = .loading ∧ (s.view 2).headerWritten = true ∧
        (∀ i, i < (s.view 2).header.columns * (s.view 2).header.rows → Table.read false (s.view 2).written i = true) ∧
        s.output.opState = .run ∧ (s.view 2).fitsGrid s.output.format = false) ∧
      Meets config0 (request 4 7 0 0 0 [2, byteOf 2]) (fun s => (s.view 2).state = .loading ∧ (s.view 2).headerWritten = true ∧
        (∀ i, i < (s.view 2).header.columns * (s.view 2).header.rows → Table.read false (s.view 2).written i = true) ∧
        s.output.opState = .config) ∧
      Meets run0 (request 4 7 0 0 0 [2, 8]) (fun _ => 7 < (8 : Byte).toNat) := by
  refine ⟨meets (by decide +kernel), meets (by decide +kernel), ?_, ?_, meets (by decide +kernel)⟩
  · exact ⟨awaits_asking _ _ rfl (by decide +kernel), by decide +kernel⟩
  · exact ⟨awaits_asking _ _ rfl (by decide +kernel), by decide +kernel⟩

theorem witness_WithdrawAndRestoreAViewState :
    Meets run0 (request 4 7 0 0 0 [3, byteOf 7]) (fun s => (s.view 7).state ≠ .valid) ∧
      Meets run0 (request 4 7 0 0 0 [3, byteOf 0]) (fun s => 0 = s.selector.defaultView ∧ s.output.opState = .run) ∧
      Meets config0 (request 4 7 0 0 0 [3, byteOf 0]) (fun s => (s.view 0).state = .valid ∧
        ¬ (0 = s.selector.defaultView ∧ s.output.opState = .run) ∧ s.selector.forced ≠ some 0) ∧
      Meets run0 (request 4 7 0 0 0 [3, byteOf 1]) (fun s => (s.view 1).state = .valid ∧
        ¬ (1 = s.selector.defaultView ∧ s.output.opState = .run) ∧ s.selector.forced = some 1) ∧
      Meets run0 (request 4 7 0 0 0 [4, byteOf 7]) (fun s => (s.view 7).state ≠ .withdrawn) ∧
      Meets run0 (request 4 7 0 0 0 [4, byteOf 4]) (fun s => (s.view 4).state = .withdrawn ∧ s.output.opState = .run ∧
        (s.view 4).fitsGrid s.output.format = false) ∧
      Meets run0 (request 4 7 0 0 0 [4, byteOf 3]) (fun s => (s.view 3).state = .withdrawn ∧
        (s.view 3).fitsGrid s.output.format = true) ∧
      Meets run0 (request 4 7 0 0 0 [3, 8]) (fun _ => 7 < (8 : Byte).toNat) ∧
      Meets run0 (request 4 7 0 0 0 [4, 8]) (fun _ => 7 < (8 : Byte).toNat) := by
  and_intros <;> exact meets (by decide +kernel)

theorem witness_ViewForceNeedsAValidView :
    Meets run0 (request 7 7 0 0 0 [byteOf 0]) (fun s => (s.view 0).state = .valid) ∧
      Meets run0 (request 7 7 0 0 0 [byteOf 7]) (fun s => (s.view 7).state ≠ .valid) ∧
      Meets run0 (request 7 7 0 0 0 [8]) (fun _ => 7 < (8 : Byte).toNat ∧ (8 : Byte) ≠ 255) ∧
      Meets run0 (request 7 7 0 0 0 [255]) (fun _ => True) := by
  and_intros <;> exact meets (by decide +kernel)

theorem witness_OverlaySwapActsByTheOperatingState :
    Meets run0 (request 5 7 0 0 0 []) (fun s => s.output.opState = .run ∧ s.overlay.swapPending = false) ∧
      Meets (run0.setOverlay { run0.overlay with swapPending := true }) (request 5 7 0 0 0 [])
        (fun s => s.output.opState = .run ∧ s.overlay.swapPending = true) ∧
      Meets config0 (request 5 7 0 0 0 []) (fun s => s.output.opState = .config ∧ s.overlay.swapPending = false) := by
  and_intros <;> exact meets (by decide +kernel)

theorem witness_EventTakeReadsAndClears :
    Meets run0 (request 8 7 0 0 0 ((List.range 6).map fun i => byteOf ((2 ^ 43 - 1) / 256 ^ i))) (fun _ => 2 ^ 43 - 1 < 2 ^ 43) ∧
      Meets run0 (request 8 7 0 0 0 ((List.range 6).map fun i => byteOf (2 ^ 43 / 256 ^ i)))
        (fun _ => 2 ^ 43 ≤ 2 ^ 43 ∧ 2 ^ 43 < 2 ^ 48) := by
  and_intros <;> exact meets (by decide +kernel)

/-! ### Zones, the selector and the picture -/

theorem witness_ZonesMoveByTheirHits :
    let s := run0.setMonitor ⟨[(3, ⟨.initial, .holding 7, 2⟩)], []⟩
    (s.monitor.zone 3).state = .holding 7 ∧
      (s.monitor.zone 3).record.holdTime * 1000 ≤ ((1500007 : PartTime) - 7).toNat ∧
      ((1500006 : PartTime) - 7).toNat < (s.monitor.zone 3).record.holdTime * 1000 ∧ (s.monitor.zone 4).state = .disarmed ∧
      ZoneRecord.initial.trigger ≤ 3 ∧ 2 < ZoneRecord.initial.trigger ∧ 1 + 1 = ZoneRecord.initial.confirm ∧
      1 + 1 < ({ ZoneRecord.initial with confirm := 3 } : ZoneRecord).confirm := by decide +kernel

/-- A zone freshly armed over tile 0, a watching one over tile 1, and a disabled one, of a grid of 3 × 1. -/
theorem witness_DetectionTestsThenLearns :
    let r (tx : Nat) (k : Nat) : ZoneRecord := { ZoneRecord.initial with enable := true, tx0 := tx, tx1 := tx, learnShift := k }
    let m : ZoneMonitor := ⟨[(0, ⟨r 0 4, .settling 8, 0⟩), (1, ⟨r 1 2, .quiet, 0⟩)], [(1, ⟨25600, false⟩), (2, ⟨25600, false⟩)]⟩
    let x : TileResults := ⟨[⟨400, false⟩, ⟨352, false⟩, ⟨400, true⟩], 3, 1⟩
    0 < x.columns * x.rows ∧ (x.mean 2).mean ≤ 1023 ∧ (x.mean 2).excluded = true ∧
      ((x.mean 0).excluded = false ∧ (m.background 0).resume = true ∧ (m.zone 0).state = .settling 8 ∧
        (m.zone 0).record.covers x 0 = true) ∧
      ((x.mean 1).excluded = false ∧ (m.background 1).resume = false ∧
        ∀ z, (m.zone z).state = .settling 8 → (m.zone z).record.covers x 1 = false) ∧
      x.columns * x.rows ≤ 3 := by decide +kernel

theorem witness_RuleConditionsFailOnUnknown :
    let e : SignalEntry Int := ⟨.current, 5, 0⟩
    (e.status = .current ∧ 300 * 1000 < ((300001 : PartTime) - e.arrival).toNat) ∧
      ((300000 : PartTime) - e.arrival).toNat ≤ 300 * 1000 ∧ (⟨.absent, 0, 0⟩ : SignalEntry Int).status ≠ .current := by
  decide +kernel

theorem witness_CandidateIsTheFirstMatch :
    let r (target : ViewNo) : Rule := { Rule.cleared with enable := true, target := target }
    let valid (v : ViewNo) : Bool := decide (v = 4)
    let snap : SignalSnapshot := ⟨none, none, none, none, none⟩
    [Rule.cleared, r 3, r 4, r 5] = [Rule.cleared, r 3] ++ r 4 :: [r 5] ∧ ((r 4).enable = true ∧ (r 4).passes snap = true) ∧
      valid (r 4).target = true ∧
      (∀ q ∈ [Rule.cleared, r 3], q.enable = true ∧ q.passes snap = true → valid q.target = false) := by decide +kernel

theorem witness_CurrentViewIsFixedByTheCases :
    let base : Selector := { Selector.initial with current := some 5 }
    let valid (v : ViewNo) : Bool := decide (v ≠ 6)
    let snap : SignalSnapshot := ⟨none, none, none, none, none⟩
    let found (x : Selector) := findCandidate valid snap x.defaultView x.ruleList
    run0.selector.forced = some 1 ∧ Selector.initial.forced = none ∧ Selector.initial.current = none ∧
      (base.current = some 5 ∧ valid 5 = true ∧ (found base).view ≠ 5 ∧ (found base).immediate = false) ∧
      valid 6 = false ∧ (found { base with defaultView := 5 }).view = 5 ∧
      (found { base with rules := [(0, { Rule.cleared with enable := true, immediate := true })] }).immediate = true ∧
      ({ base with candidate := some ⟨0, 0⟩ } : Selector).candidate = some ⟨(found base).view, 0⟩ ∧
      base.dwell * 1000 ≤ ((300000 : PartTime) - 0).toNat ∧ ((299999 : PartTime) - 0).toNat < base.dwell * 1000 ∧
      base.candidate = none ∧ 0 < base.dwell ∧ ({ base with dwell := 0 } : Selector).dwell = 0 := by decide +kernel

theorem witness_MeshStaysWithinItsCorners :
    let c : Corners Nat := ⟨32767, 32767, 32767, 32767⟩
    31 < 32 ∧ c.c00 ≤ 32767 ∧ c.c00 = c.c10 ∧ c.c00 = c.c01 ∧ c.c00 = c.c11 ∧
      (⟨256, 0, 256, 0⟩ : Corners Nat).c00 ≤ 256 := by decide

theorem witness_SamplesAreMeansAndMatched :
    let shot : Shot := ⟨1, 1, 1, 800, 512, 0⟩
    let raw (y gain offset : Int) : Int := ((y - 64) * gain + 256) / 512 + 64 + offset
    (0 < shot.width ∧ 0 < shot.validLines ∧ (⟨32, 48⟩ : Coord).u % 16 = 0 ∧ (⟨32, 48⟩ : Coord).v % 16 = 0) ∧
      raw 0 1023 (-256) < 0 ∧ 1023 < raw 1023 1023 255 ∧ 0 ≤ raw 418 512 0 ∧ raw 418 512 0 ≤ 1023 ∧
      0 ≤ 64 + (-64 : Int) ∧ (-256 : Int) ≤ -64 := by decide +kernel

theorem witness_CombinationTakesTheFirstRow :
    let sc : Scene := ⟨{ ViewHeader.cleared with hatch := true }, [], composing0.pool⟩
    let named : TileRecord := { TileRecord.cleared with primary := some 0, secondary := some 2 }
    256 ≤ 256 ∧ sc.pool.snapshot.get 2 = none ∧ sc.pool.snapshot.get 0 = some ⟨1, 800, 1280, 800, 512, 0⟩ ∧
      (∃ c, (named.primary = some c ∨ named.secondary = some c) ∧ sc.pool.snapshot.get c = none) ∧
      (∀ c, (some 0 : Option Camera) = some c ∨ (none : Option Camera) = some c → sc.pool.snapshot.get c ≠ none) ∧
      (8 + 0) / 8 % 2 = 1 := by decide +kernel

theorem witness_OverlayDrawsInListOrder :
    let rect : Element := { Element.cleared with kind := .rect, w := 4, h := 4, palette := 3 }
    let bank : Bank := ⟨[(5, rect)], [(3, ⟨⟨940, 512, 512⟩, 16⟩)], [], []⟩
    appliedOn bank [⟨5, 0⟩] 3 = [⟨5, 0⟩] ∧ coverage bank ⟨5, 0⟩ 3 3 = some 3 ∧ crowded bank [⟨5, 0⟩] 3 = false ∧
      (∀ d ∈ appliedOn bank [⟨5, 0⟩] 4, coverage bank d 3 4 = none) ∧ (bank.paletteEntry 3).alpha ≤ 16 ∧
      (∀ k ∈ [ElementKind.none, .rect, .outline, .sprite, .path], ({ rect with kind := k } : Element).kind = k) ∧
      (bank.paletteEntry 0).alpha ≤ 16 ∧ (-450 : Int) ≤ -450 ∧ (-450 : Int) ≤ 450 := by decide +kernel

theorem initial_inRange (c : Camera) : (CameraRecord.initial c).InRange := by
  refine ⟨?_, ?_, ?_, ?_, ?_, ?_, ?_, ?_⟩ <;> (revert c; decide)

theorem witness_DecodingReversesEncoding :
    (request 2 7 6 1 16320 [1, 2]).lengthAgrees = true ∧
      decodeMessage [1, 9, 7, 1, 0, 0, 0, 0, 2] = some ⟨1, 9, 7, 1, 0, 0, 0, [2]⟩ ∧ (CameraRecord.initial 3).InRange ∧
      ViewHeader.cleared.InRange ∧ TileRecord.cleared.InRange ∧ Element.cleared.InRange ∧
      (⟨⟨1023, 0, 1023⟩, 16⟩ : PaletteEntry).alpha ≤ 16 ∧ ([⟨-1024, 1024, -1024, 2047⟩] : List Span).length ≤ 7 ∧
      (⟨-1024, 1024, -1024, 2047⟩ : Span).InRange ∧ Rule.cleared.InRange ∧ ZoneRecord.initial.InRange ∧
      (TimeoutInRange 100 ∧ TimeoutInRange 2000 ∧ 2000 ≤ 2000 ∧ (CameraRecord.initial 3).slotList.length ≤ 4) := by
  refine ⟨by decide, by decide, initial_inRange 3, ?_, ?_, ?_, by decide, by decide, ?_, ?_, ?_, ?_⟩
  · constructor <;> decide
  · constructor <;> simp [TileRecord.cleared, Corners.CoordsInRange]
  · constructor <;> decide
  · constructor <;> decide
  · constructor <;> simp [Rule.cleared]
  · constructor <;> decide
  · simp only [TimeoutInRange]
    decide +kernel

/-! ### The invariants, in a part that is composing -/

/-- Composing0 with two commands waiting. -/
def stepping0 : State := { composing0 with pending := [.frameDone 15010, .powerOn] }

theorem witness_StepKeepsChannelsInAgreement : stepping0.ChannelsAgree ∧ ∃ s', step stepping0 = .next s' := by
  refine ⟨fun c => ⟨?_, ?_, ?_, ?_, ?_, ?_⟩, ⟨_, rfl⟩⟩ <;> (revert c; decide +kernel)

theorem witness_StepKeepsThePartCoherent : stepping0.Coherent ∧ ∃ s', step stepping0 = .next s' := by
  refine ⟨⟨⟨?_, ?_, ?_⟩, ⟨?_, ?_, ?_, ?_, ?_, ?_, ?_, ?_⟩⟩, ⟨_, rfl⟩⟩
  · intro k f t0 h
    cases h
  · intro f t0 h
    cases h
  · constructor
    · rintro ⟨m, h⟩
      cases h
    · rintro ⟨f, t0, h⟩
      cases h
  · decide +kernel
  · decide +kernel
  · decide +kernel
  · decide +kernel
  · decide +kernel
  · decide +kernel
  · decide +kernel
  · intro v p m r h
    cases h
    decide +kernel

theorem witness_StepKeepsTheQueuesBounded :
    let s := stepping0.setMgmt { stepping0.mgmt with
      requests := List.replicate 16 (request 1 7 0 0 0 []), replies := List.replicate 16 ⟨7, 9, 0, .ok, []⟩ }
    s.QueuesBounded ∧ ∃ s', step s = .next s' := by
  refine ⟨⟨by decide +kernel, by decide +kernel, fun m h => ?_⟩, ⟨_, rfl⟩⟩
  cases h

theorem witness_StepKeepsRecordsAndTables :
    stepping0.RecordsInRange ∧ stepping0.canonical = true ∧ stepping0.pool.canonical = true ∧ ∃ s', step stepping0 = .next s' := by
  have bank : Bank.cleared.InRange := by
    refine ⟨fun i => ?_, fun i => ?_, fun i => ⟨?_, fun x hx => ?_⟩⟩
    · exact witness_DecodingReversesEncoding.2.2.2.2.2.1
    · exact Nat.zero_le 16
    · exact Nat.zero_le 7
    · cases hx
  have tiles : ∀ v, (stepping0.view v).tiles = [] := by decide +kernel
  refine ⟨⟨fun c => ?_, fun v => ?_, fun v i => ?_, bank, bank, ⟨fun i => ?_, ?_, ?_, ?_, ?_⟩, fun z => ?_⟩, by decide +kernel,
    by decide +kernel, ⟨_, rfl⟩⟩
  · have h : (stepping0.channel c).record = .initial c := by revert c; decide +kernel
    rw [h]
    exact initial_inRange c
  · constructor <;> (revert v; decide +kernel)
  · rw [tiles v]
    exact witness_DecodingReversesEncoding.2.2.2.2.1
  · exact witness_DecodingReversesEncoding.2.2.2.2.2.2.2.2.2.1
  · decide +kernel
  · simp only [TimeoutInRange]
    decide +kernel
  · decide +kernel
  · decide +kernel
  · have h : (stepping0.monitor.zone z).record = .initial := by revert z; decide +kernel
    rw [h]
    exact witness_DecodingReversesEncoding.2.2.2.2.2.2.2.2.2.2.1

/-- Slot 1 of the state is HELD, and slot 4 alone is FILLING. -/
theorem witness_StepKeepsTheSlotsInAgreement :
    stepping0.Coherent ∧ stepping0.ChannelsAgree ∧ stepping0.SlotsAgree ∧ stepping0.RecordsInRange ∧
      stepping0.pool.slot 1 = .held 0 frameB false ∧ (∀ k, k ≠ 4 → fillingOwner (stepping0.pool.slot k) = none) ∧
      ∃ s', step stepping0 = .next s' := by
  refine ⟨witness_StepKeepsThePartCoherent.1, witness_StepKeepsChannelsInAgreement.1, ?_, witness_StepKeepsRecordsAndTables.1,
    by decide +kernel, by decide +kernel, ⟨_, rfl⟩⟩
  apply slotsAgree_of <;> decide +kernel

end Sys2Proof.Tests
end

section
/-!
PROOFS. TABLE_WRITE of a camera record (R2 to R4, R171): the form test and the clamps of the reading, the tests of the write in their
order, and the statement they settle.
-/
namespace Sys2Proof.Machine

/-! ## Clamps and numbered things -/

theorem clampNat_eq_max_min {lo hi : Nat} (h : lo ≤ hi) (n : Nat) : clampNat lo hi n = max lo (min hi n) := by
  unfold clampNat
  split_ifs <;> omega

theorem clampInt_eq_max_min {lo hi : Int} (h : lo ≤ hi) (n : Int) : clampInt lo hi n = max lo (min hi n) := by
  unfold clampInt
  split_ifs <;> omega

@[simp] theorem toFin?_val {n : Nat} [NeZero n] (x : Fin n) : toFin? n x.val = some x := by
  simp [toFin?]

theorem toFin?_eq_none {n k : Nat} [NeZero n] (h : n ≤ k) : toFin? n k = none :=
  if_neg (Nat.not_lt.mpr h)

/-! ## The reading of a camera record (R3 test 2, R4) -/

/-- The expected cadence byte is the place of the cadence in R189's list. -/
theorem cadence?_eq_getElem? (b : Nat) : cadence? b = [ExpectedCadence.any, .c25, .c30, .c50, .c60][b]? := by
  match b with
  | 0 | 1 | 2 | 3 | 4 => rfl
  | n + 5 => simp [cadence?]

theorem exists_cadence?_iff (b : Nat) : (∃ cadence, cadence? b = some cadence) ↔ b ≤ 4 := by
  simp only [cadence?_eq_getElem?, List.getElem?_eq_some_iff, exists_comm, exists_eq', exists_prop, and_true]
  exact Nat.lt_succ_iff

@[simp] theorem slotBytes_length (p : List Byte) : (slotBytes p).length = u8 p 16 := by
  simp [slotBytes]

theorem forall_mem_slotBytes (p : List Byte) (P : Nat → Prop) :
    (∀ n ∈ slotBytes p, P n) ↔ ∀ i, i < u8 p 16 → P (u8 p (17 + i)) := by
  simp [slotBytes]

theorem slotBytes_nodup_iff (p : List Byte) :
    (slotBytes p).Nodup ↔ ∀ i j, i < j → j < u8 p 16 → u8 p (17 + i) ≠ u8 p (17 + j) := by
  simp only [List.Nodup, List.pairwise_iff_getElem, slotBytes_length]
  constructor
  · intro h i j hij hj
    simpa [slotBytes] using h i j (hij.trans hj) hj hij
  · intro h i j hi hj hij
    simpa [slotBytes] using h i j hij hj

/-- The form of a camera record's payload, which R3's test 2 asks for: the cadence code, the two masks, and 1 to 4 distinct slot
numbers up to 15. -/
structure CameraRecordFormed (p : List Byte) : Prop where
  cadence : u8 p 4 ≤ 4
  keepMask : u8 p 10 ≤ 63
  haltMask : u8 p 11 ≤ 63
  count_pos : 1 ≤ u8 p 16
  count_le : u8 p 16 ≤ 4
  slot_le : ∀ i, i < u8 p 16 → u8 p (17 + i) ≤ 15
  distinct : ∀ i j, i < j → j < u8 p 16 → u8 p (17 + i) ≠ u8 p (17 + j)

theorem slotListFormed_slotBytes_iff (p : List Byte) :
    slotListFormed (slotBytes p) = true ↔ 1 ≤ u8 p 16 ∧ u8 p 16 ≤ 4 ∧ (∀ i, i < u8 p 16 → u8 p (17 + i) ≤ 15) ∧
      ∀ i j, i < j → j < u8 p 16 → u8 p (17 + i) ≠ u8 p (17 + j) := by
  simp only [slotListFormed, Bool.and_eq_true, decide_eq_true_eq, List.all_eq_true, slotBytes_length, forall_mem_slotBytes,
    slotBytes_nodup_iff, and_assoc]

theorem cameraRecordFormed_iff (p : List Byte) :
    CameraRecordFormed p ↔ u8 p 4 ≤ 4 ∧ u8 p 10 < 64 ∧ u8 p 11 < 64 ∧ slotListFormed (slotBytes p) = true := by
  rw [slotListFormed_slotBytes_iff]
  constructor
  · intro h
    exact ⟨h.cadence, Nat.lt_succ_of_le h.keepMask, Nat.lt_succ_of_le h.haltMask, h.count_pos, h.count_le, h.slot_le, h.distinct⟩
  · rintro ⟨hc, hk, hh, h1, h4, hle, hne⟩
    exact ⟨hc, Nat.le_of_lt_succ hk, Nat.le_of_lt_succ hh, h1, h4, hle, hne⟩

/-- The record R4 makes of a payload with the given cadence: each field brought into its range. -/
def clampedCameraRecord (p : List Byte) (cadence : ExpectedCadence) : CameraRecord where
  width := clampWidth (u16 p 0)
  height := clampNat 64 1080 (u16 p 2)
  cadence := cadence
  staleLimit := clampNat 20 500 (u16 p 5)
  lossLimit := clampNat 50 2000 (u16 p 7)
  freezeCount := clampFreeze (u8 p 9)
  keepMask := BitVec.ofNat 6 (u8 p 10)
  haltMask := BitVec.ofNat 6 (u8 p 11)
  gain := clampNat 0 1023 (u16 p 12)
  offset := clampInt (-256) 255 (s16 p 14)
  slotList := (slotBytes p).map (Fin.ofNat 16)

theorem readCameraRecord_of_formed {p : List Byte} (h : CameraRecordFormed p) :
    ∃ cadence, cadence? (u8 p 4) = some cadence ∧ readCameraRecord p = .ok (clampedCameraRecord p cadence) := by
  obtain ⟨hcode, hform⟩ := (cameraRecordFormed_iff p).mp h
  obtain ⟨cadence, hcad⟩ := (exists_cadence?_iff _).mpr hcode
  refine ⟨cadence, hcad, ?_⟩
  rw [readCameraRecord, hcad]
  exact if_pos hform

theorem readCameraRecord_of_not_formed {p : List Byte} (h : ¬ CameraRecordFormed p) : readCameraRecord p = .error .malformed := by
  rw [cameraRecordFormed_iff, not_and] at h
  rw [readCameraRecord]
  cases hcad : cadence? (u8 p 4) with
  | none => rfl
  | some cadence => exact if_neg (h ((exists_cadence?_iff _).mp ⟨cadence, hcad⟩))

/-- A reading succeeds on a formed payload only, and then gives R4's record. -/
theorem readCameraRecord_eq_ok {p : List Byte} {r : CameraRecord} (h : readCameraRecord p = .ok r) :
    CameraRecordFormed p ∧ ∃ cadence, cadence? (u8 p 4) = some cadence ∧ r = clampedCameraRecord p cadence := by
  by_cases hf : CameraRecordFormed p
  · obtain ⟨cadence, hcad, hr⟩ := readCameraRecord_of_formed hf
    exact ⟨hf, cadence, hcad, Except.ok.inj (h.symm.trans hr)⟩
  · cases h.symm.trans (readCameraRecord_of_not_formed hf)

/-- The slot list is stored in written order: no number is above 15, so none wraps. -/
theorem slotList_val_of_formed {p : List Byte} (h : CameraRecordFormed p) (cadence : ExpectedCadence) :
    (clampedCameraRecord p cadence).slotList.map Fin.val = (List.range (u8 p 16)).map fun i => u8 p (17 + i) := by
  have hle : ∀ n ∈ slotBytes p, n ≤ 15 := (forall_mem_slotBytes p _).mpr h.slot_le
  have hval : ∀ n ∈ slotBytes p, (Fin.ofNat 16 n).val = n := fun n hn => Nat.mod_eq_of_lt (Nat.lt_succ_of_le (hle n hn))
  calc (clampedCameraRecord p cadence).slotList.map Fin.val
      = (slotBytes p).map fun n => (Fin.ofNat 16 n).val := List.map_map
    _ = (slotBytes p).map id := List.map_congr_left hval
    _ = (List.range (u8 p 16)).map fun i => u8 p (17 + i) := List.map_id _

/-- Every field of a record read, against the payload's bytes (R2, R4). -/
theorem readCameraRecord_fields {p : List Byte} {r : CameraRecord} (h : readCameraRecord p = .ok r) :
    r.width = max 64 (min 1920 (u16 p 0)) / 2 * 2 ∧ r.height = max 64 (min 1080 (u16 p 2)) ∧
      [ExpectedCadence.any, .c25, .c30, .c50, .c60][u8 p 4]? = some r.cadence ∧
      r.staleLimit = max 20 (min 500 (u16 p 5)) ∧ r.lossLimit = max 50 (min 2000 (u16 p 7)) ∧
      r.freezeCount = (if u8 p 9 = 0 then 0 else max 2 (min 15 (u8 p 9))) ∧
      r.keepMask.toNat = u8 p 10 ∧ r.haltMask.toNat = u8 p 11 ∧ r.gain = min 1023 (u16 p 12) ∧
      r.offset = max (-256) (min 255 (s16 p 14)) ∧
      r.slotList.map Fin.val = (List.range (u8 p 16)).map fun i => u8 p (17 + i) := by
  obtain ⟨hf, cadence, hcad, rfl⟩ := readCameraRecord_eq_ok h
  rw [cadence?_eq_getElem?] at hcad
  refine ⟨?width, clampNat_eq_max_min (by decide) _, hcad, clampNat_eq_max_min (by decide) _, clampNat_eq_max_min (by decide) _,
    ?freezeCount, Nat.mod_eq_of_lt (Nat.lt_succ_of_le hf.keepMask), Nat.mod_eq_of_lt (Nat.lt_succ_of_le hf.haltMask), ?gain,
    clampInt_eq_max_min (by decide) _, slotList_val_of_formed hf cadence⟩
  case width => simp [clampedCameraRecord, clampWidth, clampNat_eq_max_min]
  case freezeCount => simp [clampedCameraRecord, clampFreeze, clampNat_eq_max_min]
  case gain => simp [clampedCameraRecord, clampNat_eq_max_min]

/-! ## The tests of the write (R3) -/

theorem Pool.anyHeld_iff (p : Pool) (l : List SlotNo) : p.anyHeld l = true ↔ ∃ k ∈ l, ∃ d f o, p.slot k = .held d f o := by
  rw [Pool.anyHeld, List.any_eq_true]
  refine exists_congr fun k => and_congr_right fun _ => ?_
  cases p.slot k <;> simp

theorem Pool.not_anyHeld {p : Pool} {l : List SlotNo} (h : ∀ k ∈ l, ∀ d f o, p.slot k ≠ .held d f o) : ¬ p.anyHeld l = true := by
  rw [Pool.anyHeld_iff]
  rintro ⟨k, hk, d, f, o, heq⟩
  exact h k hk d f o heq

theorem mem_allCameras (c : Camera) : c ∈ allCameras := by
  revert c
  decide

theorem State.slotConflict_iff (s : State) (c : Camera) (l : List SlotNo) :
    s.slotConflict c l = true ↔ ∃ k ∈ l, ∃ d, d ≠ c ∧ k ∈ (s.channel d).record.slotList := by
  simp only [State.slotConflict, List.any_eq_true, Bool.and_eq_true, decide_eq_true_eq, mem_allCameras, true_and]
  constructor
  · rintro ⟨d, hd, k, hk, hmem⟩
    exact ⟨k, hk, d, hd, hmem⟩
  · rintro ⟨k, hk, d, hd, hmem⟩
    exact ⟨d, hd, k, hk, hmem⟩

theorem writeCameraRecord_badIndex {m : Message} (s : State) (h : 3 < m.index.toNat) :
    writeCameraRecord m s = refuse s .badIndex := by
  rw [writeCameraRecord, toFin?_eq_none h]

theorem writeCameraRecord_error {m : Message} {c : Camera} {e : Result} (s : State) (hc : m.index.toNat = c.val)
    (he : readCameraRecord m.payload = .error e) : writeCameraRecord m s = refuse s e := by
  rw [writeCameraRecord, hc, toFin?_val]
  simp only [he]

section
variable {m : Message} {c : Camera} {r : CameraRecord} {s : State}

/-- The write of a formed record for a camera: LOCKED, BUSY and CONFLICT in this order, else the store. -/
theorem writeCameraRecord_ok (hc : m.index.toNat = c.val) (hr : readCameraRecord m.payload = .ok r) :
    writeCameraRecord m s =
      if (s.channel c).state ≠ .off then refuse s .locked
      else if s.pool.anyHeld (s.channel c).record.slotList then refuse s .busy
      else if s.slotConflict c r.slotList then refuse s .conflict
      else done (s.setChannel c { s.channel c with record := r }) (encodeCameraRecord r) := by
  rw [writeCameraRecord, hc, toFin?_val]
  simp only [hr]

theorem writeCameraRecord_locked (hc : m.index.toNat = c.val) (hr : readCameraRecord m.payload = .ok r)
    (hstate : (s.channel c).state ≠ .off) : writeCameraRecord m s = refuse s .locked := by
  rw [writeCameraRecord_ok hc hr, if_pos hstate]

theorem writeCameraRecord_busy (hc : m.index.toNat = c.val) (hr : readCameraRecord m.payload = .ok r)
    (hstate : (s.channel c).state = .off)
    (hheld : ∃ k ∈ (s.channel c).record.slotList, ∃ d f o, s.pool.slot k = .held d f o) :
    writeCameraRecord m s = refuse s .busy := by
  rw [writeCameraRecord_ok hc hr, if_neg (not_not_intro hstate), if_pos ((Pool.anyHeld_iff _ _).mpr hheld)]

theorem writeCameraRecord_conflict (hc : m.index.toNat = c.val) (hr : readCameraRecord m.payload = .ok r)
    (hstate : (s.channel c).state = .off)
    (hheld : ∀ k ∈ (s.channel c).record.slotList, ∀ d f o, s.pool.slot k ≠ .held d f o)
    (hconf : ∃ k ∈ r.slotList, ∃ d, d ≠ c ∧ k ∈ (s.channel d).record.slotList) :
    writeCameraRecord m s = refuse s .conflict := by
  rw [writeCameraRecord_ok hc hr, if_neg (not_not_intro hstate), if_neg (Pool.not_anyHeld hheld),
    if_pos ((State.slotConflict_iff _ _ _).mpr hconf)]

theorem writeCameraRecord_done (hc : m.index.toNat = c.val) (hr : readCameraRecord m.payload = .ok r)
    (hstate : (s.channel c).state = .off)
    (hheld : ∀ k ∈ (s.channel c).record.slotList, ∀ d f o, s.pool.slot k ≠ .held d f o)
    (hconf : ∀ k ∈ r.slotList, ∀ d, d ≠ c → k ∉ (s.channel d).record.slotList) :
    writeCameraRecord m s = done (s.setChannel c { s.channel c with record := r }) (encodeCameraRecord r) := by
  have hfree : ¬ s.slotConflict c r.slotList = true := by
    rw [State.slotConflict_iff]
    rintro ⟨k, hk, d, hd, hmem⟩
    exact hconf k hk d hd hmem
  rw [writeCameraRecord_ok hc hr, if_neg (not_not_intro hstate), if_neg (Pool.not_anyHeld hheld), if_neg hfree]

end

/-! ## The command -/

/-- An awaited TABLE_WRITE of a camera record of the required length is executed on the state with the request taken (R168, R170). -/
theorem exec_tableWriteCameraRecord_of_awaits {s : State} {t : PartTime} {rest : List Message} {tag sub : Byte}
    {index : BitVec 16} {payload : List Byte} (hlen : payload.length = 21)
    (h : s.Awaits (request 2 tag 1 sub index payload) rest) :
    exec (.tableWriteCameraRecord t) s =
      .next ((writeCameraRecord (request 2 tag 1 sub index payload) (s.taken t rest)).settle
        (request 2 tag 1 sub index payload)) := by
  have hok : wholeMessageOk (request 2 tag 1 sub index payload) = true := by
    rw [request, hlen]
    rfl
  exact congrArg _ (executeRequest_of_awaits t writeCameraRecord h rfl hok)

theorem pushReply_tableWriteCameraRecord (s : State) (tag sub : Byte) (index : BitVec 16) (payload : List Byte) (r : Result)
    (answer : List Byte) :
    s.pushReply (request 2 tag 1 sub index payload) r answer = s.answered tag 2 1 r answer := rfl

/-- Settles O33: the awaited command is `writeCameraRecord` on the state with the request taken, and each test of R3 is one branch
of that write. -/
theorem cameraRecordWriteIsTestedInOrder : Obligations.CameraRecordWriteIsTestedInOrder := by
  intro s t rest tag sub index payload c r hlen hawaits
  have hexec := exec_tableWriteCameraRecord_of_awaits (t := t) hlen hawaits
  have hrefuse : ∀ e, writeCameraRecord (request 2 tag 1 sub index payload) (s.taken t rest) = refuse (s.taken t rest) e →
      exec (.tableWriteCameraRecord t) s = .next ((s.taken t rest).answered tag 2 1 e []) := by
    intro e he
    rw [hexec, he, refuse_settle, pushReply_tableWriteCameraRecord]
  refine ⟨fun hindex => hrefuse _ (writeCameraRecord_badIndex _ hindex), fun hc => ⟨fun hbad => ?malformed, ?formed, fun hr =>
    ⟨readCameraRecord_fields hr, fun hstate => hrefuse _ (writeCameraRecord_locked hc hr hstate),
      fun hstate hheld => hrefuse _ (writeCameraRecord_busy hc hr hstate hheld),
      fun hstate hheld hconf => hrefuse _ (writeCameraRecord_conflict hc hr hstate hheld hconf),
      fun hstate hheld hconf => ?stored⟩⟩⟩
  case malformed =>
    have hform : ¬ CameraRecordFormed payload := by
      intro h
      rcases hbad with hb | hb | hb | hb | hb | ⟨i, hi, hb⟩ | ⟨i, j, hij, hj, hb⟩
      · exact Nat.not_lt.mpr h.cadence hb
      · exact Nat.not_lt.mpr h.keepMask hb
      · exact Nat.not_lt.mpr h.haltMask hb
      · exact Nat.ne_of_gt h.count_pos hb
      · exact Nat.not_lt.mpr h.count_le hb
      · exact Nat.not_lt.mpr (h.slot_le i hi) hb
      · exact h.distinct i j hij hj hb
    exact hrefuse _ (writeCameraRecord_error _ hc (readCameraRecord_of_not_formed hform))
  case formed =>
    intro hcad hkeep hhalt hpos hle hslot hne
    obtain ⟨cadence, -, hr⟩ := readCameraRecord_of_formed ⟨hcad, hkeep, hhalt, hpos, hle, hslot, hne⟩
    exact ⟨_, hr⟩
  case stored =>
    have hdone := writeCameraRecord_done (m := request 2 tag 1 sub index payload) (s := s.taken t rest) hc hr hstate hheld hconf
    rw [hexec, hdone, done_settle, pushReply_tableWriteCameraRecord, State.taken_channel]

end Sys2Proof.Machine
end

section
/-!
PROOFS. FRAME_CLOSE (R10 to R12, R36): what an event of one camera leaves alone, what leaving service makes of the pool, the state each
outcome of a frame gives, and the statement they settle.
-/
namespace Sys2Proof.Machine

/-! ## Saturating counters (R27) -/

theorem raise_toNat (n : BitVec 16) (k : Nat) : (raise n k).toNat = min 65535 (n.toNat + k) := by
  rw [raise, BitVec.toNat_ofNat]
  omega

/-! ## Ready lists and the pool after leaving service (R23, R36, R37) -/

theorem Pool.ready_setReady_other (p : Pool) {c d : Camera} (l : List SlotNo) (h : d ≠ c) :
    (p.setReady c l).ready.get d = p.ready.get d :=
  PerCamera.get_set_other p.ready l h

theorem Slot.leave_of_owner_ne {c : Camera} {x : Slot} (h : x.owner ≠ some c) : x.leave c = x := by
  cases x with
  | free => rfl
  | filling owner => exact if_neg fun e => h (congrArg some e)
  | ready owner frame aged => exact if_neg fun e => h (congrArg some e)
  | held owner frame orphaned =>
    have hne : owner ≠ c := fun e => h (congrArg some e)
    simp [Slot.leave, hne]

theorem Pool.slot_leave (p : Pool) (c : Camera) (k : SlotNo) : (p.leave c).slot k = (p.slot k).leave c := by
  simp [Pool.leave]

theorem Pool.slot_leave_of_free (p : Pool) (c : Camera) {k : SlotNo} (h : p.slot k = .free) : (p.leave c).slot k = .free := by
  rw [Pool.slot_leave, h]
  rfl

/-- What leaving service makes of the pool is what R23 says. -/
theorem Pool.left_leave (p : Pool) (c : Camera) : p.Left c (p.leave c) where
  filling k h := by simp [Pool.slot_leave, h, Slot.leave]
  ready k f a h := by simp [Pool.slot_leave, h, Slot.leave]
  held k f o h := by simp [Pool.slot_leave, h, Slot.leave]
  others k h := by rw [Pool.slot_leave, Slot.leave_of_owner_ne h]
  list := Pool.ready_setReady_same _ _ _
  lists _ h := Pool.ready_setReady_other _ _ h
  pixels := rfl
  snapshot := rfl

/-! ## An event of one camera -/

/-- A state that differs from another in part time, the pool, camera `c`'s channel and the latches alone stands to it as
`State.OnlyCamera` says, where the channel's record, the other ready lists and the snapshot are kept. -/
theorem State.onlyCamera_of_update {s : State} {c : Camera} {p : Pool} {x : Channel} (t : PartTime) (ks : List Latch)
    (hrecord : x.record = (s.channel c).record) (hready : ∀ d, d ≠ c → p.ready.get d = s.pool.ready.get d)
    (hsnapshot : p.snapshot = s.pool.snapshot) :
    s.OnlyCamera c ((((s.atTime t).setPool p).setChannel c x).raiseLatches ks) where
  pending := rfl
  record := by simpa using hrecord
  channels d h := by simp [State.channel_setChannel_other _ _ h]
  ready := hready
  snapshot := hsnapshot
  views := rfl
  selector := rfl
  compositor := rfl
  overlay := rfl
  monitor := rfl
  output := rfl
  mgmt := rfl
  port := rfl

/-! ## A completed frame (R12, R17) -/

/-- The frame record of a filling frame that completes on channel `ch` at part time `t` (R12). -/
def FillingFrame.completedRecord (f : FillingFrame) (c : Camera) (ch : Channel) (t : PartTime) (flags : FlagSet) : FrameRecord :=
  ⟨c, f.number, ch.sequence, t, f.validLines, flags, f.signature⟩

/-- The channel after a completion, before its freeze check (R12). -/
def Channel.afterCompletion (ch : Channel) (frame : FrameRecord) : Channel :=
  { ch with
    filling := none
    sequence := ch.sequence + 1
    counters := { ch.counters with completed := raise ch.counters.completed 1 }
    lastFrame := frame }

/-- The freeze check leaves the record of the channel and everything a completion has written (R12, R17). -/
theorem Channel.freezeCheck_afterCompletion (c : Camera) (ch : Channel) (frame : FrameRecord) (signature : BitVec 16) :
    let after := ((ch.afterCompletion frame).freezeCheck c signature).1
    after.record = ch.record ∧ after.filling = none ∧ after.sequence = ch.sequence + 1 ∧
      after.counters = { ch.counters with completed := raise ch.counters.completed 1 } ∧ after.lastFrame = frame := by
  obtain ⟨_, _, _, h⟩ := Channel.freezeCheck_frame c (ch.afterCompletion frame) signature
  simp only [h]
  exact ⟨rfl, rfl, rfl, rfl, rfl⟩

theorem State.completeFrame_eq (s : State) (c : Camera) (f : FillingFrame) (flags : FlagSet) :
    let frame := f.completedRecord c (s.channel c) s.partTime flags
    let checked := ((s.channel c).afterCompletion frame).freezeCheck c f.signature
    s.completeFrame c f flags = ((s.setPool (s.pool.complete f.slot frame)).setChannel c checked.1).raiseLatches checked.2 := rfl

theorem Pool.slot_complete_same (p : Pool) (k : SlotNo) (frame : FrameRecord) :
    (p.complete k frame).slot k = .ready frame.camera frame false := by
  simp [Pool.complete]

theorem Pool.slot_complete_other (p : Pool) {j k : SlotNo} (frame : FrameRecord) (h : j ≠ k) :
    (p.complete k frame).slot j = p.slot j := by
  simp [Pool.complete, Pool.slot_setSlot_other _ _ h]

/-- A completed frame's slot is its camera's newest entry (R36). -/
theorem Pool.ready_complete_same (p : Pool) (k : SlotNo) (frame : FrameRecord) :
    (p.complete k frame).ready.get frame.camera = p.ready.get frame.camera ++ [k] :=
  Pool.ready_setReady_same _ _ _

theorem Pool.ready_complete_other (p : Pool) (k : SlotNo) {frame : FrameRecord} {d : Camera} (h : d ≠ frame.camera) :
    (p.complete k frame).ready.get d = p.ready.get d :=
  Pool.ready_setReady_other _ _ h

/-! ## A halted and a discarded frame (R11, R23) -/

theorem State.haltFrame_eq (s : State) (c : Camera) (f : FillingFrame) :
    s.haltFrame c f = ((s.setPool ((s.pool.setSlot f.slot .free).leave c)).setChannel c
      { s.channel c with state := .halted, reasons := .none, filling := none, lossTimer := none }).raiseLatches
      [.camHalted c] := rfl

theorem State.discardFrame_eq (s : State) (c : Camera) (f : FillingFrame) :
    s.discardFrame c f = ((s.setPool (s.pool.setSlot f.slot .free)).setChannel c
      { s.channel c with
        filling := none
        counters := { (s.channel c).counters with
          discarded := raise (s.channel c).counters.discarded 1 } }).raiseLatches [] := rfl

/-! ## The command -/

theorem exec_frameClose (t : PartTime) (c : Camera) (claimed : BitVec 16) (s : State) :
    exec (.frameClose t c claimed) s = .next ((s.atTime t).frameClose c claimed) := rfl

/-- SHORT joins where the valid lines are few or no line was written, then CLAIM where the claimed count is not the received one
(R10). -/
theorem FillingFrame.flagsAtClose_eq (f : FillingFrame) (height : Nat) (claimed : BitVec 16) :
    f.flagsAtClose height claimed =
      (f.flags ||| (if f.validLines < height ∨ f.highest = none then 0b000001#6 else 0)) |||
        (if claimed.toNat = f.received then 0 else 0b010000#6) := by
  have hshort : joinFlagIf (f.isShort height) f.flags .short =
      f.flags ||| (if f.validLines < height ∨ f.highest = none then 0b000001#6 else 0) := by
    by_cases h : f.validLines < height ∨ f.highest = none
    · simp [joinFlagIf, FillingFrame.isShort, h]
      rfl
    · simp [joinFlagIf, FillingFrame.isShort, h]
  rw [FillingFrame.flagsAtClose, hshort]
  by_cases h : claimed.toNat = f.received
  · simp [joinFlagIf, h]
  · simp [joinFlagIf, h]
    rfl

/-! ## The three outcomes (R11) -/

theorem frameOutcome_halt {r : CameraRecord} {flags : FlagSet} (written : Bool) (hhalt : flags &&& r.haltMask ≠ 0) :
    frameOutcome r flags written = .halt := if_pos hhalt

theorem frameOutcome_complete {r : CameraRecord} {flags : FlagSet} {highest : Option Nat} (hhalt : flags &&& r.haltMask = 0)
    (hkeep : flags &&& ~~~ r.keepMask = 0) (hwritten : highest ≠ none) :
    frameOutcome r flags highest.isSome = .complete := by
  simp [frameOutcome, hhalt, hkeep, Option.isSome_iff_ne_none, hwritten]

theorem frameOutcome_discard {r : CameraRecord} {flags : FlagSet} {highest : Option Nat} (hhalt : flags &&& r.haltMask = 0)
    (hbad : ¬ (flags &&& ~~~ r.keepMask = 0 ∧ highest ≠ none)) : frameOutcome r flags highest.isSome = .discard := by
  rw [← Option.isSome_iff_ne_none] at hbad
  rw [frameOutcome, if_neg (not_not_intro hhalt), if_neg hbad]

section
variable {s : State} {t : PartTime} {c : Camera} {claimed : BitVec 16} {f : FillingFrame} {flags : FlagSet}
  (hingests : (s.channel c).ingests = true) (hfilling : (s.channel c).filling = some f)
  (hflags : flags = f.flagsAtClose (s.channel c).record.height claimed)
include hingests hfilling hflags

/-- A FRAME_CLOSE of a filling frame is the outcome R11 gives for the frame's flags. -/
theorem State.frameClose_filling :
    s.frameClose c claimed = match frameOutcome (s.channel c).record flags f.highest.isSome with
      | .halt => s.haltFrame c f
      | .complete => s.completeFrame c f flags
      | .discard => s.discardFrame c f := by
  subst hflags
  simp only [State.frameClose, hingests, hfilling] <;> rfl

theorem exec_frameClose_halt (hhalt : flags &&& (s.channel c).record.haltMask ≠ 0) :
    exec (.frameClose t c claimed) s = .next ((((s.atTime t).setPool ((s.pool.setSlot f.slot .free).leave c)).setChannel c
      { s.channel c with state := .halted, reasons := .none, filling := none, lossTimer := none }).raiseLatches
      [.camHalted c]) := by
  rw [exec_frameClose, State.frameClose_filling (s := s.atTime t) hingests hfilling hflags, State.atTime_channel,
    frameOutcome_halt _ hhalt]
  exact congrArg _ (State.haltFrame_eq _ c f)

theorem exec_frameClose_complete (hhalt : flags &&& (s.channel c).record.haltMask = 0)
    (hkeep : flags &&& ~~~ (s.channel c).record.keepMask = 0) (hwritten : f.highest ≠ none) :
    let frame := f.completedRecord c (s.channel c) t flags
    let checked := ((s.channel c).afterCompletion frame).freezeCheck c f.signature
    exec (.frameClose t c claimed) s = .next ((((s.atTime t).setPool (s.pool.complete f.slot frame)).setChannel c
      checked.1).raiseLatches checked.2) := by
  rw [exec_frameClose, State.frameClose_filling (s := s.atTime t) hingests hfilling hflags, State.atTime_channel,
    frameOutcome_complete hhalt hkeep hwritten]
  exact congrArg _ (State.completeFrame_eq _ c f flags)

theorem exec_frameClose_discard (hhalt : flags &&& (s.channel c).record.haltMask = 0)
    (hbad : ¬ (flags &&& ~~~ (s.channel c).record.keepMask = 0 ∧ f.highest ≠ none)) :
    exec (.frameClose t c claimed) s = .next ((((s.atTime t).setPool (s.pool.setSlot f.slot .free)).setChannel c
      { s.channel c with
        filling := none
        counters := { (s.channel c).counters with
          discarded := raise (s.channel c).counters.discarded 1 } }).raiseLatches []) := by
  rw [exec_frameClose, State.frameClose_filling (s := s.atTime t) hingests hfilling hflags, State.atTime_channel,
    frameOutcome_discard hhalt hbad]
  exact congrArg _ (State.discardFrame_eq _ c f)

end

/-- Settles O10: by R11 the frame halts the channel, completes or is discarded, and each outcome's state is an update of the pool, of
the camera's channel and of the latches. -/
theorem frameCloseDecidesTheOutcome : Obligations.FrameCloseDecidesTheOutcome := by
  intro s t c claimed f flags hingests hfilling hflags
  rw [← FillingFrame.flagsAtClose_eq] at hflags
  by_cases hhalt : flags &&& (s.channel c).record.haltMask = 0
  case neg =>
    have hleft := (s.pool.setSlot f.slot .free).left_leave c
    refine ⟨_, exec_frameClose_halt hingests hfilling hflags hhalt, rfl, State.onlyCamera_of_update t _ rfl hleft.lists rfl, rfl,
      ?_, fun _ => ⟨?_, ?_, hleft.list, hleft, rfl⟩, fun h => absurd h hhalt, fun h => absurd h hhalt⟩
    · simp
    · simp
    · exact Pool.slot_leave_of_free _ _ (Pool.slot_setSlot_same _ _ _)
  case pos =>
    by_cases hgood : flags &&& ~~~ (s.channel c).record.keepMask = 0 ∧ f.highest ≠ none
    case pos =>
      obtain ⟨hkeep, hwritten⟩ := hgood
      have hexec := exec_frameClose_complete (t := t) hingests hfilling hflags hhalt hkeep hwritten
      obtain ⟨hrecord, hfilled, hsequence, hcounters, hlast⟩ := Channel.freezeCheck_afterCompletion c (s.channel c)
        (f.completedRecord c (s.channel c) t flags) f.signature
      refine ⟨_, hexec, rfl, State.onlyCamera_of_update t _ hrecord (fun _ hd => Pool.ready_complete_other _ _ hd) rfl, rfl,
        ?_, fun h => absurd hhalt h, fun _ _ _ => ⟨_, rfl, ?_, Pool.slot_complete_same _ _ _,
          fun _ hk => Pool.slot_complete_other _ _ hk, Pool.ready_complete_same _ _ _, ?_, ?_, ?_, ?_,
          State.raised_of_latches rfl⟩, fun _ h => absurd ⟨hkeep, hwritten⟩ (not_and_or.mpr (h.imp_right not_not_intro))⟩
      all_goals rw [State.raiseLatches_channel, State.channel_setChannel_same]
      · exact hfilled
      · exact hlast
      · exact hsequence
      · exact hcounters
      · rw [hcounters, raise_toNat]
      · rfl
    case neg =>
      refine ⟨_, exec_frameClose_discard hingests hfilling hflags hhalt hgood, rfl,
        State.onlyCamera_of_update t _ rfl (fun _ _ => rfl) rfl, rfl, ?_, fun h => absurd hhalt h,
        fun _ hkeep hwritten => absurd ⟨hkeep, hwritten⟩ hgood, fun _ _ => ⟨?_, ?_, Pool.slot_setSlot_same _ _ _,
          fun _ hk => Pool.slot_setSlot_other _ _ hk, rfl, rfl⟩⟩
      all_goals rw [State.raiseLatches_channel, State.channel_setChannel_same]
      exact raise_toNat _ 1

end Sys2Proof.Machine
end

section
/-!
PROOFS. RUN (R66, R67): the test of the grids, the tests of the request in their order, its acceptance, and the statement they settle.
-/
namespace Sys2Proof.Machine

/-! ## The test of the grids (R66 test 4) -/

theorem State.gridsFit_iff (s : State) :
    s.gridsFit = true ↔ ∀ v, (s.view v).state = .valid → (s.view v).fitsGrid s.output.format = true := by
  simp only [State.gridsFit, List.all_eq_true, List.mem_range, Bool.or_eq_true, decide_eq_true_eq, ← imp_iff_not_or]
  exact ⟨fun h v => h v.val v.isLt, fun h n hn => h ⟨n, hn⟩⟩

theorem State.gridsFit_eq_false_iff (s : State) :
    s.gridsFit = false ↔ ∃ v, (s.view v).state = .valid ∧ (s.view v).fitsGrid s.output.format = false := by
  rw [← Bool.not_eq_true, State.gridsFit_iff]
  push Not
  simp only [ne_eq, Bool.not_eq_true]

@[simp] theorem State.taken_gridsFit (s : State) (t : PartTime) (rest : List Message) : (s.taken t rest).gridsFit = s.gridsFit := rfl

/-! ## The tests and the acceptance (R66, R67) -/

theorem State.isRun_iff (s : State) : s.isRun = true ↔ s.output.opState = .run := decide_eq_true_iff

theorem State.not_isRun_of_config {s : State} (h : s.output.opState = .config) : ¬ s.isRun = true := by
  rw [State.isRun_iff, h]
  decide

theorem State.viewValid_eq_false_iff (s : State) (v : ViewNo) : s.viewValid v = false ↔ (s.view v).state ≠ .valid :=
  decide_eq_false_iff_not

@[simp] theorem State.zeroCounters_channel (s : State) (c : Camera) :
    s.zeroCounters.channel c = { s.channel c with counters := .zero } :=
  PerCamera.get_build _ c

section
variable {s : State} (m : Message)

theorem runEffect_badState (hrun : s.output.opState = .run) : runEffect m s = refuse s .badState := by
  rw [runEffect, if_pos (s.isRun_iff.mpr hrun)]

variable (hconfig : s.output.opState = .config)
include hconfig

theorem runEffect_busy (hclock : s.output.clock ≠ .locked) : runEffect m s = refuse s .busy := by
  rw [runEffect, if_neg (State.not_isRun_of_config hconfig), if_pos hclock]

variable (hclock : s.output.clock = .locked)
include hclock

theorem runEffect_incomplete (hview : (s.view s.selector.defaultView).state ≠ .valid) :
    runEffect m s = refuse s .incomplete := by
  rw [runEffect, if_neg (State.not_isRun_of_config hconfig), if_neg (not_not_intro hclock),
    if_pos ((s.viewValid_eq_false_iff _).mpr hview)]

variable (hview : (s.view s.selector.defaultView).state = .valid)
include hview

/-- Past the first three tests, the grids decide. -/
theorem runEffect_of_defaultView_valid :
    runEffect m s = if s.gridsFit = false then refuse s .gridMismatch
      else done ((s.setOutput { s.output with opState := .run }).zeroCounters) [] := by
  rw [runEffect, if_neg (State.not_isRun_of_config hconfig), if_neg (not_not_intro hclock),
    if_neg ((s.viewValid_eq_false_iff _).not.mpr (not_not_intro hview))]

theorem runEffect_gridMismatch (hgrid : ∃ v, (s.view v).state = .valid ∧ (s.view v).fitsGrid s.output.format = false) :
    runEffect m s = refuse s .gridMismatch := by
  rw [runEffect_of_defaultView_valid m hconfig hclock hview, if_pos (s.gridsFit_eq_false_iff.mpr hgrid)]

theorem runEffect_done (hgrid : ∀ v, (s.view v).state = .valid → (s.view v).fitsGrid s.output.format = true) :
    runEffect m s = done ((s.setOutput { s.output with opState := .run }).zeroCounters) [] := by
  rw [runEffect_of_defaultView_valid m hconfig hclock hview, if_neg (ne_false_of_eq_true (s.gridsFit_iff.mpr hgrid))]

end

/-! ## The command -/

/-- An awaited RUN is executed on the state with the request taken (R168, R170). -/
theorem exec_run_of_awaits {s : State} {t : PartTime} {rest : List Message} {tag target sub : Byte} {index : BitVec 16}
    (h : s.Awaits (request 10 tag target sub index []) rest) :
    exec (.run t) s =
      .next ((runEffect (request 10 tag target sub index []) (s.taken t rest)).settle (request 10 tag target sub index [])) :=
  congrArg _ (executeRequest_of_awaits t runEffect h rfl rfl)

theorem pushReply_run (s : State) (tag target sub : Byte) (index : BitVec 16) (r : Result) :
    s.pushReply (request 10 tag target sub index []) r [] = s.answered tag 10 0 r [] := rfl

/-- Settles O26: the awaited command is `runEffect` on the state with the request taken, and each test of R66 and the acceptance of
R67 is one branch of that effect. -/
theorem runIsTestedAndAccepted : Obligations.RunIsTestedAndAccepted := by
  intro s t rest tag target sub index hawaits
  have hexec := exec_run_of_awaits (t := t) hawaits
  have hrefuse : ∀ e, runEffect (request 10 tag target sub index []) (s.taken t rest) = refuse (s.taken t rest) e →
      exec (.run t) s = .next ((s.taken t rest).answered tag 10 0 e []) := by
    intro e he
    rw [hexec, he, refuse_settle, pushReply_run]
  refine ⟨fun hrun => hrefuse _ (runEffect_badState _ hrun),
    fun hconfig hclock => hrefuse _ (runEffect_busy _ hconfig hclock),
    fun hconfig hclock hview => hrefuse _ (runEffect_incomplete _ hconfig hclock hview),
    fun hconfig hclock hview hgrid => hrefuse _ (runEffect_gridMismatch _ hconfig hclock hview hgrid),
    fun hconfig hclock hview hgrid => ⟨_, ?accepted, (s.taken t rest).zeroCounters_channel⟩⟩
  case accepted =>
    rw [hexec, runEffect_done (s := s.taken t rest) _ hconfig hclock hview hgrid, done_settle, pushReply_run]
    rfl

end Sys2Proof.Machine
end

section
/-!
PROOFS. What the requests of the view store share (R72, R73, R75, R79 to R84): an answered request, the view a request names, the grid
test, the force, and the readings of a view header and of a tile record.
-/
namespace Sys2Proof.Machine

/-! ## A request executed and answered -/

/-- An awaited request that passes the whole-message tests is replied to with what its row's effect answers (R168, R170, R171). -/
theorem executeRequest_of_answer {row : RequestRow} {t : PartTime} {effect : Message → State → Answer} {s s' : State} {m : Message}
    {rest : List Message} {r : Result} {p : List Byte} (h : s.Awaits m rest) (hrow : requestRow m = row)
    (hok : wholeMessageOk m = true) (heffect : effect m (s.taken t rest) = ⟨s', some (r, p)⟩) :
    executeRequest row t effect s = s'.pushReply m r p := by
  rw [executeRequest_of_awaits t effect h hrow hok, heffect, Answer.settle]

/-! ## Numbers and codes in a payload -/

theorem toFin?_eq_some_iff {n k : Nat} [NeZero n] (x : Fin n) : toFin? n k = some x ↔ k = x.val := by
  constructor
  · intro h
    rw [toFin?, Option.ite_none_right_eq_some, Option.some.injEq] at h
    obtain ⟨hk, rfl⟩ := h
    exact (Nat.mod_eq_of_lt hk).symm
  · rintro rfl
    exact toFin?_val x

theorem toNat_byteOf_viewNo (v : ViewNo) : (byteOf v.val).toNat = v.val := by
  rw [byteOf, BitVec.toNat_ofNat]
  omega

/-- An ON or OFF byte is the bit it stands for (R189). -/
theorem onOff?_eq_some_iff (b : Nat) (x : Bool) : onOff? b = some x ↔ b = bit x := by
  match b with
  | 0 | 1 => cases x <;> decide
  | n + 2 => cases x <;> simp [onOff?, bit]

theorem onOff?_eq_none {b : Nat} (h : 1 < b) : onOff? b = none := by
  obtain ⟨n, rfl⟩ := Nat.exists_eq_add_of_le' h
  rfl

/-- A camera byte of a tile is 15 for NONE, else the camera's number (R186). -/
theorem tileCamera?_eq_some_iff (b : Nat) (x : Option Camera) :
    tileCamera? b = some x ↔ (x = none ∧ b = 15) ∨ ∃ c : Camera, x = some c ∧ b = c.val := by
  by_cases h : b = 15
  case pos =>
    have hval : ∀ c : Camera, 15 ≠ c.val := by omega
    rw [tileCamera?, if_pos h, h]
    simp [hval, eq_comm (a := none)]
  case neg =>
    rw [tileCamera?, if_neg h, Option.map_eq_some_iff]
    simp [h, toFin?_eq_some_iff, and_comm, eq_comm (b := x)]

theorem tileCamera?_eq_none {b : Nat} (h : 3 < b) (h15 : b ≠ 15) : tileCamera? b = none := by
  rw [tileCamera?, if_neg h15, toFin?_eq_none h, Option.map_none]

theorem exists_tileCamera? {b : Nat} (h : b ≤ 3 ∨ b = 15) : ∃ x, tileCamera? b = some x := by
  rcases h with h | h
  · exact ⟨some ⟨b, Nat.lt_succ_of_le h⟩, (tileCamera?_eq_some_iff _ _).mpr (.inr ⟨_, rfl, rfl⟩)⟩
  · exact ⟨none, (tileCamera?_eq_some_iff _ _).mpr (.inl ⟨rfl, h⟩)⟩

/-- An upper clamp alone, where the range begins at 0. -/
theorem clampNat_zero (hi n : Nat) : clampNat 0 hi n = min hi n := by
  rw [clampNat_eq_max_min (Nat.zero_le hi), Nat.zero_max]

/-- A clamped level fits its ten bits. -/
theorem level_clampNat_toNat (n : Nat) : (level (clampNat 0 1023 n)).toNat = min 1023 n := by
  rw [level, BitVec.toNat_ofNat, clampNat_zero]
  omega

theorem colourAt_toNat (p : List Byte) (i : Nat) :
    (colourAt p i).y.toNat = min 1023 (u16 p i) ∧ (colourAt p i).cb.toNat = min 1023 (u16 p (i + 2)) ∧
      (colourAt p i).cr.toNat = min 1023 (u16 p (i + 4)) :=
  ⟨level_clampNat_toNat _, level_clampNat_toNat _, level_clampNat_toNat _⟩

theorem u16_lt (p : List Byte) (i : Nat) : u16 p i < 65536 := by
  have hlo : u8 p i < 256 := (byteAt p i).isLt
  have hhi : u8 p (i + 1) < 256 := (byteAt p (i + 1)).isLt
  rw [u16]
  omega

theorem coordAt_eq (p : List Byte) (i : Nat) : coordAt p i = ⟨min 32767 (u16 p i), min 32767 (u16 p (i + 2))⟩ := by
  rw [coordAt, clampNat_zero, clampNat_zero]

/-! ## The reading of a view header (R72, R79 test 2) -/

/-- The header R72 makes of a payload with the given hatch: each field brought into its range. -/
def clampedViewHeader (p : List Byte) (hatch : Bool) : ViewHeader where
  columns := clampNat 1 40 (u8 p 0)
  rows := clampNat 1 25 (u8 p 1)
  background := colourAt p 2
  fault := colourAt p 8
  hatch := hatch
  label := BitVec.ofNat 16 (u16 p 15)

theorem readViewHeader_malformed {p : List Byte} (h : 1 < u8 p 14) : readViewHeader p = .error .malformed := by
  rw [readViewHeader, onOff?_eq_none h]

theorem readViewHeader_of_hatch {p : List Byte} {hatch : Bool} (h : u8 p 14 = bit hatch) :
    readViewHeader p = .ok (clampedViewHeader p hatch) := by
  rw [readViewHeader, (onOff?_eq_some_iff _ _).mpr h]
  rfl

theorem exists_readViewHeader {p : List Byte} (h : u8 p 14 ≤ 1) : ∃ header, readViewHeader p = .ok header := by
  rcases Nat.le_one_iff_eq_zero_or_eq_one.mp h with h0 | h1
  · exact ⟨_, readViewHeader_of_hatch (hatch := false) h0⟩
  · exact ⟨_, readViewHeader_of_hatch (hatch := true) h1⟩

theorem readViewHeader_eq_ok {p : List Byte} {header : ViewHeader} (h : readViewHeader p = .ok header) :
    ∃ hatch, u8 p 14 = bit hatch ∧ header = clampedViewHeader p hatch := by
  cases hcode : onOff? (u8 p 14) with
  | none =>
    rw [readViewHeader, hcode] at h
    cases h
  | some hatch =>
    have hbit := (onOff?_eq_some_iff _ _).mp hcode
    exact ⟨hatch, hbit, Except.ok.inj (h.symm.trans (readViewHeader_of_hatch hbit))⟩

/-! ## The reading of a tile record (R73, R80 test 2) -/

/-- The tile record R73 makes of a payload with the given cameras: each field brought into its range. -/
def clampedTile (p : List Byte) (primary secondary : Option Camera) : TileRecord where
  primary := primary
  secondary := secondary
  primaryCorners := cornersAt p 2
  secondaryCorners := cornersAt p 18
  weights := ⟨clampNat 0 256 (u16 p 34), clampNat 0 256 (u16 p 36), clampNat 0 256 (u16 p 38), clampNat 0 256 (u16 p 40)⟩

theorem readTile_of_cameras {p : List Byte} {primary secondary : Option Camera} (h0 : tileCamera? (u8 p 0) = some primary)
    (h1 : tileCamera? (u8 p 1) = some secondary) : readTile p = .ok (clampedTile p primary secondary) := by
  rw [readTile, h0, h1]
  rfl

theorem readTile_malformed {p : List Byte} (h : tileCamera? (u8 p 0) = none ∨ tileCamera? (u8 p 1) = none) :
    readTile p = .error .malformed := by
  rcases h with h | h
  · rw [readTile, h]
  · rw [readTile, h]
    cases tileCamera? (u8 p 0) <;> rfl

theorem readTile_eq_ok {p : List Byte} {r : TileRecord} (h : readTile p = .ok r) :
    ∃ primary secondary, tileCamera? (u8 p 0) = some primary ∧ tileCamera? (u8 p 1) = some secondary ∧
      r = clampedTile p primary secondary := by
  cases h0 : tileCamera? (u8 p 0) with
  | none => cases h.symm.trans (readTile_malformed (.inl h0))
  | some primary =>
    cases h1 : tileCamera? (u8 p 1) with
    | none => cases h.symm.trans (readTile_malformed (.inr h1))
    | some secondary => exact ⟨primary, secondary, rfl, rfl, Except.ok.inj (h.symm.trans (readTile_of_cameras h0 h1))⟩

end Sys2Proof.Machine
end

section
/-!
PROOFS. TABLE_WRITE of a view header and of a tile record (R72, R73, R75, R79, R80): the tests of each write in their order, and the
statement they settle.
-/
namespace Sys2Proof.Machine

/-! ## The write of a view header (R79) -/

theorem writeViewHeader_badIndex {m : Message} (s : State) (h : 7 < m.index.toNat) : writeViewHeader m s = refuse s .badIndex := by
  rw [writeViewHeader, toFin?_eq_none h]

section
variable {m : Message} {v : ViewNo} {s : State} (hv : m.index.toNat = v.val)
include hv

theorem writeViewHeader_error {e : Result} (he : readViewHeader m.payload = .error e) : writeViewHeader m s = refuse s e := by
  rw [writeViewHeader, hv, toFin?_val]
  simp only [he]

variable {header : ViewHeader} (hread : readViewHeader m.payload = .ok header)
include hread

theorem writeViewHeader_ok :
    writeViewHeader m s =
      if (s.view v).state ≠ .loading then refuse s .locked
      else done (s.setView v { s.view v with header := header, headerWritten := true }) (encodeViewHeader header) := by
  rw [writeViewHeader, hv, toFin?_val]
  simp only [hread]

theorem writeViewHeader_locked (hstate : (s.view v).state ≠ .loading) : writeViewHeader m s = refuse s .locked := by
  rw [writeViewHeader_ok hv hread, if_pos hstate]

theorem writeViewHeader_done (hstate : (s.view v).state = .loading) :
    writeViewHeader m s =
      done (s.setView v { s.view v with header := header, headerWritten := true }) (encodeViewHeader header) := by
  rw [writeViewHeader_ok hv hread, if_neg (not_not_intro hstate)]

end

/-! ## The write of a tile record (R80) -/

theorem writeTile_badIndex {m : Message} (s : State) (h : 7 < m.sub.toNat ∨ 1023 < m.index.toNat) :
    writeTile m s = refuse s .badIndex := by
  rcases h with h | h
  · rw [writeTile, toFin?_eq_none h]
  · rw [writeTile, toFin?_eq_none h]
    cases toFin? 8 m.sub.toNat <;> rfl

section
variable {m : Message} {v : ViewNo} {s : State} (hv : m.sub.toNat = v.val) (htile : m.index.toNat ≤ 1023)
include hv htile

theorem writeTile_error {e : Result} (he : readTile m.payload = .error e) : writeTile m s = refuse s e := by
  have hindex : toFin? 1024 m.index.toNat = some ⟨m.index.toNat, Nat.lt_succ_of_le htile⟩ := (toFin?_eq_some_iff _).mpr rfl
  rw [writeTile, hv, toFin?_val, hindex]
  simp only [he]

variable {r : TileRecord} (hread : readTile m.payload = .ok r)
include hread

theorem writeTile_ok :
    writeTile m s =
      if (s.view v).state ≠ .loading then refuse s .locked
      else done (s.setView v ((s.view v).writeTile m.index.toNat r)) (encodeTile r) := by
  have hindex : toFin? 1024 m.index.toNat = some ⟨m.index.toNat, Nat.lt_succ_of_le htile⟩ := (toFin?_eq_some_iff _).mpr rfl
  rw [writeTile, hv, toFin?_val, hindex]
  simp only [hread]

theorem writeTile_locked (hstate : (s.view v).state ≠ .loading) : writeTile m s = refuse s .locked := by
  rw [writeTile_ok hv htile hread, if_pos hstate]

theorem writeTile_done (hstate : (s.view v).state = .loading) :
    writeTile m s = done (s.setView v ((s.view v).writeTile m.index.toNat r)) (encodeTile r) := by
  rw [writeTile_ok hv htile hread, if_neg (not_not_intro hstate)]

end

theorem View.read_tiles_writeTile (x : View) (tile i : Nat) (r : TileRecord) :
    Table.read TileRecord.cleared (x.writeTile tile r).tiles i = if i = tile then r else Table.read TileRecord.cleared x.tiles i :=
  Table.read_write TileRecord.cleared x.tiles tile i r

theorem View.read_written_writeTile (x : View) (tile i : Nat) (r : TileRecord) :
    Table.read false (x.writeTile tile r).written i = if i = tile then true else Table.read false x.written i :=
  Table.read_write false x.written tile i true

/-! ## The commands -/

section
variable {s s' : State} {t : PartTime} {rest : List Message} {tag sub : Byte} {index : BitVec 16} {payload : List Byte} {r : Result}
  {p : List Byte}

/-- An awaited write of a view header of the required length is replied to with what `writeViewHeader` answers. -/
theorem exec_tableWriteViewHeader_of_answer (hlen : payload.length = 17) (h : s.Awaits (request 2 tag 2 sub index payload) rest)
    (hanswer : writeViewHeader (request 2 tag 2 sub index payload) (s.taken t rest) = ⟨s', some (r, p)⟩) :
    exec (.tableWriteViewHeader t) s = .next (s'.answered tag 2 2 r p) := by
  have hok : wholeMessageOk (request 2 tag 2 sub index payload) = true := by
    rw [request, hlen]
    rfl
  exact congrArg _ (executeRequest_of_answer h rfl hok hanswer)

/-- An awaited write of a tile record of the required length is replied to with what `writeTile` answers. -/
theorem exec_tableWriteTile_of_answer (hlen : payload.length = 42) (h : s.Awaits (request 2 tag 3 sub index payload) rest)
    (hanswer : writeTile (request 2 tag 3 sub index payload) (s.taken t rest) = ⟨s', some (r, p)⟩) :
    exec (.tableWriteTile t) s = .next (s'.answered tag 2 3 r p) := by
  have hok : wholeMessageOk (request 2 tag 3 sub index payload) = true := by
    rw [request, hlen]
    rfl
  exact congrArg _ (executeRequest_of_answer h rfl hok hanswer)

end

/-- Settles O34: each test of R79 and of R80 is one branch of the write on the state with the request taken, and a stored record is the
payload's fields brought into their ranges. -/
theorem viewWritesNeedALoadingView : Obligations.ViewWritesNeedALoadingView := by
  intro s t rest tag sub index payload v colour coord camera
  refine ⟨fun hlen hawaits => ?header, fun hlen hawaits => ?tile⟩
  case header =>
    refine ⟨fun hindex => ?_, fun hv hhatch => ?_, fun hv hhatch hstate => ?_, exists_readViewHeader,
      fun header hv hread hstate => ?stored⟩
    · exact exec_tableWriteViewHeader_of_answer hlen hawaits (writeViewHeader_badIndex _ hindex)
    · exact exec_tableWriteViewHeader_of_answer hlen hawaits (writeViewHeader_error hv (readViewHeader_malformed hhatch))
    · obtain ⟨header, hread⟩ := exists_readViewHeader hhatch
      exact exec_tableWriteViewHeader_of_answer hlen hawaits (writeViewHeader_locked hv hread hstate)
    case stored =>
      have hexec := exec_tableWriteViewHeader_of_answer (t := t) hlen hawaits (writeViewHeader_done hv hread hstate)
      obtain ⟨hatch, hbit, rfl⟩ := readViewHeader_eq_ok hread
      refine ⟨clampNat_eq_max_min (by decide) _, clampNat_eq_max_min (by decide) _, colourAt_toNat _ _, colourAt_toNat _ _, ?hatch,
        Nat.mod_eq_of_lt (u16_lt _ _), hexec⟩
      case hatch => cases hatch <;> simp [clampedViewHeader, hbit, bit]
  case tile =>
    refine ⟨fun hindex => ?_, fun hv htile => ⟨fun hbad => ?_, fun h0 h1 => ?_,
      fun r hread => ⟨?fields, fun hstate => ?_, fun hstate => ?stored⟩⟩⟩
    · exact exec_tableWriteTile_of_answer hlen hawaits (writeTile_badIndex _ hindex)
    · have hnone := hbad.imp (fun ⟨h, h15⟩ => tileCamera?_eq_none h h15) (fun ⟨h, h15⟩ => tileCamera?_eq_none h h15)
      exact exec_tableWriteTile_of_answer hlen hawaits (writeTile_error hv htile (readTile_malformed hnone))
    · obtain ⟨primary, hprimary⟩ := exists_tileCamera? h0
      obtain ⟨secondary, hsecondary⟩ := exists_tileCamera? h1
      exact ⟨_, readTile_of_cameras hprimary hsecondary⟩
    case fields =>
      obtain ⟨primary, secondary, hprimary, hsecondary, rfl⟩ := readTile_eq_ok hread
      refine ⟨(tileCamera?_eq_some_iff _ _).mp hprimary, (tileCamera?_eq_some_iff _ _).mp hsecondary, ?_, ?_, ?_⟩
      all_goals simp only [clampedTile, cornersAt, coordAt_eq, clampNat_zero, coord]
    · exact exec_tableWriteTile_of_answer hlen hawaits (writeTile_locked hv htile hread hstate)
    case stored =>
      exact ⟨_, exec_tableWriteTile_of_answer hlen hawaits (writeTile_done hv htile hread hstate), hstate, rfl, rfl,
        fun i => View.read_tiles_writeTile _ _ i r, fun i => View.read_written_writeTile _ _ i r⟩

end Sys2Proof.Machine
end

section
/-!
PROOFS. VIEW_CLOSE, VIEW_WITHDRAW and VIEW_RESTORE (R81, R83 to R85, R87): the tests of each request in their order, its effect, and the
statements they settle.
-/
namespace Sys2Proof.Machine

/-! ## The view a request names (R184) -/

theorem withView_of_eq {m : Message} {v : ViewNo} (s : State) (f : ViewNo → Answer) (h : u8 m.payload 1 = v.val) :
    withView m s f = f v := by
  rw [withView, h, toFin?_val]

theorem withView_badIndex {m : Message} (s : State) (f : ViewNo → Answer) (h : 7 < u8 m.payload 1) :
    withView m s f = refuse s .badIndex := by
  rw [withView, toFin?_eq_none h]

/-! ## The grid, the default view and the force (R81, R84, R85, R87) -/

/-- Outside RUN, or with a grid that fits, the grid test of R81 and R84 is passed. -/
theorem State.not_misfit_in_run {s : State} {x : View} (h : s.output.opState = .config ∨ x.fitsGrid s.output.format = true) :
    ¬ (s.isRun = true ∧ x.fitsGrid s.output.format = false) := by
  rintro ⟨hrun, hmisfit⟩
  rcases h with hconfig | hfits
  · exact State.not_isRun_of_config hconfig hrun
  · exact ne_false_of_eq_true hfits hmisfit

theorem State.protectedDefault_iff (s : State) (v : ViewNo) :
    s.protectedDefault v = true ↔ v = s.selector.defaultView ∧ s.output.opState = .run := by
  rw [State.protectedDefault, Bool.and_eq_true, decide_eq_true_iff, State.isRun_iff]

theorem State.releaseForce_of_not_forced {s : State} {v : ViewNo} (h : s.selector.forced ≠ some v) : s.releaseForce v = s :=
  if_neg h

theorem State.releaseForce_of_forced {s : State} {v : ViewNo} (h : s.selector.forced = some v) :
    s.releaseForce v = (s.setSelector { s.selector with forced := none }).latched .forceReleased := by
  rw [State.releaseForce, if_pos h, State.raiseLatch_eq]

/-! ## The missing tiles of a view (R81) -/

theorem View.missing_eq_filter (x : View) :
    x.missing = (List.range (x.header.columns * x.header.rows)).filter fun i => Table.read false x.written i = false := by
  simp only [View.missing, ViewHeader.tileCount, Bool.decide_eq_false]

theorem View.mem_missing_iff (x : View) (i : Nat) :
    i ∈ x.missing ↔ i < x.header.columns * x.header.rows ∧ Table.read false x.written i = false := by
  rw [View.missing_eq_filter, List.mem_filter, List.mem_range, decide_eq_true_iff]

theorem View.missing_eq_nil_iff (x : View) :
    x.missing = [] ↔ ∀ i, i < x.header.columns * x.header.rows → Table.read false x.written i = true := by
  simp only [List.eq_nil_iff_forall_not_mem, View.mem_missing_iff, not_and, Bool.not_eq_false]

/-- The first of the missing tiles is the lowest tile index not written. -/
theorem View.headD_missing (x : View) (h : x.missing ≠ []) :
    let lowest := x.missing.headD 1024
    lowest < x.header.columns * x.header.rows ∧ Table.read false x.written lowest = false ∧
      ∀ i, i < lowest → Table.read false x.written i = true := by
  obtain ⟨k, hk⟩ := Option.ne_none_iff_exists'.mp (mt List.head?_eq_none_iff.mp h)
  have hfind := hk
  rw [View.missing_eq_filter, List.head?_filter, List.find?_range_eq_some] at hfind
  obtain ⟨hunwritten, hlt, hbelow⟩ := hfind
  simp only [List.headD_eq_head?_getD, hk, Option.getD_some]
  refine ⟨List.mem_range.mp hlt, of_decide_eq_true hunwritten, fun i hi => ?_⟩
  simpa using hbelow i hi

/-! ## VIEW_CLOSE (R81) -/

section
variable {m : Message} {v : ViewNo} {s : State} (hv : u8 m.payload 1 = v.val)
include hv

theorem closeEffect_badState (hstate : (s.view v).state ≠ .loading) : closeEffect m s = refuse s .badState := by
  rw [closeEffect, withView_of_eq s _ hv, if_pos hstate]

variable (hstate : (s.view v).state = .loading)
include hstate

theorem closeEffect_incomplete (h : (s.view v).headerWritten = false ∨ (s.view v).missing ≠ []) :
    closeEffect m s = ⟨s, some (.incomplete, (s.view v).completenessItems)⟩ := by
  rw [closeEffect, withView_of_eq s _ hv, if_neg (not_not_intro hstate), if_pos h]

variable (hheader : (s.view v).headerWritten = true) (hmissing : (s.view v).missing = [])
include hheader hmissing

/-- Past the test of completeness, the grid decides. -/
theorem closeEffect_of_complete :
    closeEffect m s =
      if s.isRun = true ∧ (s.view v).fitsGrid s.output.format = false then refuse s .gridMismatch
      else done (s.setViewState v .valid) [] := by
  have hwhole : ¬ ((s.view v).headerWritten = false ∨ (s.view v).missing ≠ []) := by simp [hheader, hmissing]
  rw [closeEffect, withView_of_eq s _ hv, if_neg (not_not_intro hstate), if_neg hwhole]

theorem closeEffect_gridMismatch (hrun : s.output.opState = .run) (hgrid : (s.view v).fitsGrid s.output.format = false) :
    closeEffect m s = refuse s .gridMismatch := by
  rw [closeEffect_of_complete hv hstate hheader hmissing, if_pos ⟨s.isRun_iff.mpr hrun, hgrid⟩]

theorem closeEffect_done (hgrid : s.output.opState = .config ∨ (s.view v).fitsGrid s.output.format = true) :
    closeEffect m s = done (s.setViewState v .valid) [] := by
  rw [closeEffect_of_complete hv hstate hheader hmissing, if_neg (State.not_misfit_in_run hgrid)]

end

/-! ## VIEW_WITHDRAW (R83, R85, R87) -/

section
variable {m : Message} {v : ViewNo} {s : State} (hv : u8 m.payload 1 = v.val)
include hv

theorem withdrawEffect_badState
    (h : (s.view v).state ≠ .valid ∨ v = s.selector.defaultView ∧ s.output.opState = .run) :
    withdrawEffect m s = refuse s .badState := by
  rw [← State.protectedDefault_iff] at h
  rw [withdrawEffect, withView_of_eq s _ hv, if_pos h]

theorem withdrawEffect_done (hstate : (s.view v).state = .valid)
    (hguard : ¬ (v = s.selector.defaultView ∧ s.output.opState = .run)) :
    withdrawEffect m s = done ((s.setViewState v .withdrawn).releaseForce v) [] := by
  rw [← State.protectedDefault_iff] at hguard
  rw [withdrawEffect, withView_of_eq s _ hv, if_neg (not_or.mpr ⟨not_not_intro hstate, hguard⟩)]

end

/-! ## VIEW_RESTORE (R84) -/

section
variable {m : Message} {v : ViewNo} {s : State} (hv : u8 m.payload 1 = v.val)
include hv

theorem restoreEffect_badState (hstate : (s.view v).state ≠ .withdrawn) : restoreEffect m s = refuse s .badState := by
  rw [restoreEffect, withView_of_eq s _ hv, if_pos hstate]

variable (hstate : (s.view v).state = .withdrawn)
include hstate

theorem restoreEffect_gridMismatch (hrun : s.output.opState = .run) (hgrid : (s.view v).fitsGrid s.output.format = false) :
    restoreEffect m s = refuse s .gridMismatch := by
  rw [restoreEffect, withView_of_eq s _ hv, if_neg (not_not_intro hstate), if_pos ⟨s.isRun_iff.mpr hrun, hgrid⟩]

theorem restoreEffect_done (hgrid : s.output.opState = .config ∨ (s.view v).fitsGrid s.output.format = true) :
    restoreEffect m s = done (s.setViewState v .valid) [] := by
  rw [restoreEffect, withView_of_eq s _ hv, if_neg (not_not_intro hstate), if_neg (State.not_misfit_in_run hgrid)]

end

/-! ## The commands -/

section
variable {s s' : State} {t : PartTime} {rest : List Message} {tag target sub b : Byte} {index : BitVec 16} {r : Result} {p : List Byte}

/-- An awaited VIEW_CLOSE is replied to with what `closeEffect` answers. -/
theorem exec_viewClose_of_answer (h : s.Awaits (request 4 tag target sub index [2, b]) rest)
    (hanswer : closeEffect (request 4 tag target sub index [2, b]) (s.taken t rest) = ⟨s', some (r, p)⟩) :
    exec (.viewClose t) s = .next (s'.answered tag 4 0 r p) :=
  congrArg _ (executeRequest_of_answer h rfl rfl hanswer)

/-- An awaited VIEW_WITHDRAW is replied to with what `withdrawEffect` answers. -/
theorem exec_viewWithdraw_of_answer (h : s.Awaits (request 4 tag target sub index [3, b]) rest)
    (hanswer : withdrawEffect (request 4 tag target sub index [3, b]) (s.taken t rest) = ⟨s', some (r, p)⟩) :
    exec (.viewWithdraw t) s = .next (s'.answered tag 4 0 r p) :=
  congrArg _ (executeRequest_of_answer h rfl rfl hanswer)

/-- An awaited VIEW_RESTORE is replied to with what `restoreEffect` answers. -/
theorem exec_viewRestore_of_answer (h : s.Awaits (request 4 tag target sub index [4, b]) rest)
    (hanswer : restoreEffect (request 4 tag target sub index [4, b]) (s.taken t rest) = ⟨s', some (r, p)⟩) :
    exec (.viewRestore t) s = .next (s'.answered tag 4 0 r p) :=
  congrArg _ (executeRequest_of_answer h rfl rfl hanswer)

end

/-- Settles O39: each test of R81 is one branch of `closeEffect` on the state with the request taken, and the completeness items are the
length and the head of the list of missing tiles. -/
theorem viewCloseNeedsAWholeView : Obligations.ViewCloseNeedsAWholeView := by
  intro s t rest tag target sub index v x tiles
  have hv := toNat_byteOf_viewNo v
  refine ⟨fun hawaits => ⟨fun hstate => ?_, fun hstate hpart => ?incomplete, fun hstate hheader hwritten =>
    ⟨fun hrun hgrid => ?_, fun hgrid => ?_⟩⟩, fun b hb hawaits => ?badIndex⟩
  · exact exec_viewClose_of_answer hawaits (closeEffect_badState hv hstate)
  case incomplete =>
    have hmissing : x.headerWritten = false ∨ x.missing ≠ [] := hpart.imp_right fun ⟨i, hi, hunwritten⟩ =>
      List.ne_nil_of_mem ((x.mem_missing_iff i).mpr ⟨hi, hunwritten⟩)
    refine ⟨x.missing.length, x.missing.headD 1024, exec_viewClose_of_answer hawaits (closeEffect_incomplete hv hstate hmissing),
      congrArg List.length x.missing_eq_filter, fun hnone => ?_, fun hsome => ?_⟩
    · rw [List.length_eq_zero_iff.mp hnone, List.headD_nil]
    · exact x.headD_missing (mt List.length_eq_zero_iff.mpr hsome)
  · exact exec_viewClose_of_answer hawaits
      (closeEffect_gridMismatch hv hstate hheader (x.missing_eq_nil_iff.mpr hwritten) hrun hgrid)
  · exact exec_viewClose_of_answer hawaits (closeEffect_done hv hstate hheader (x.missing_eq_nil_iff.mpr hwritten) hgrid)
  case badIndex => exact exec_viewClose_of_answer hawaits (withView_badIndex _ _ hb)

/-- Settles O40: each test of R83 and of R84 is one branch of its effect on the state with the request taken, and a withdrawal releases
the force just where it names the view (R85). -/
theorem withdrawAndRestoreAViewState : Obligations.WithdrawAndRestoreAViewState := by
  intro s t rest tag target sub index v x guarded withdrawn
  have hv := toNat_byteOf_viewNo v
  refine ⟨fun hawaits => ⟨fun hbad => ?_, fun hstate hguard hforce => ?unforced, fun hstate hguard hforce => ?forced⟩,
    fun hawaits => ⟨fun hstate => ?_, fun hstate hrun hgrid => ?_, fun hstate hgrid => ?_⟩, fun b hb => ⟨fun hawaits => ?_,
      fun hawaits => ?_⟩⟩
  · exact exec_viewWithdraw_of_answer hawaits (withdrawEffect_badState hv hbad)
  case unforced =>
    have hkept : withdrawn.releaseForce v = withdrawn := State.releaseForce_of_not_forced hforce
    rw [← hkept]
    exact exec_viewWithdraw_of_answer hawaits (withdrawEffect_done hv hstate hguard)
  case forced =>
    have hreleased : withdrawn.releaseForce v = (withdrawn.setSelector { s.selector with forced := none }).latched .forceReleased :=
      State.releaseForce_of_forced hforce
    rw [← hreleased]
    exact exec_viewWithdraw_of_answer hawaits (withdrawEffect_done hv hstate hguard)
  · exact exec_viewRestore_of_answer hawaits (restoreEffect_badState hv hstate)
  · exact exec_viewRestore_of_answer hawaits (restoreEffect_gridMismatch hv hstate hrun hgrid)
  · exact exec_viewRestore_of_answer hawaits (restoreEffect_done hv hstate hgrid)
  · exact exec_viewWithdraw_of_answer hawaits (withView_badIndex _ _ hb)
  · exact exec_viewRestore_of_answer hawaits (withView_badIndex _ _ hb)

end Sys2Proof.Machine
end

section
/-!
PROOFS. Bilinear sampling and level matching (R99 to R102): the weighted mean and its range, the clamped neighbours, the matched luma
before and after saturation, and the statement they settle.
-/
namespace Sys2Proof.Machine

/-! ## The weighted mean of four neighbours (R100) -/

theorem bilinear_weights_sum {fu fv : Nat} (hu : fu ≤ 16) (hv : fv ≤ 16) :
    (16 - fu) * (16 - fv) + fu * (16 - fv) + (16 - fu) * fv + fu * fv = 256 :=
  calc (16 - fu) * (16 - fv) + fu * (16 - fv) + (16 - fu) * fv + fu * fv
      = (16 - fu + fu) * (16 - fv + fv) := by ring
    _ = 256 := by rw [Nat.sub_add_cancel hu, Nat.sub_add_cancel hv]

/-- `bilinear` with each neighbour times its own weight. -/
theorem bilinear_eq (p00 p10 p01 p11 fu fv : Nat) :
    bilinear p00 p10 p01 p11 fu fv =
      (p00 * ((16 - fu) * (16 - fv)) + p10 * (fu * (16 - fv)) + p01 * ((16 - fu) * fv) + p11 * (fu * fv) + 128) / 256 := by
  simp only [bilinear, Nat.mul_assoc]

theorem bilinear_le {p00 p10 p01 p11 fu fv hi : Nat} (hu : fu ≤ 16) (hv : fv ≤ 16) (h00 : p00 ≤ hi) (h10 : p10 ≤ hi) (h01 : p01 ≤ hi)
    (h11 : p11 ≤ hi) : bilinear p00 p10 p01 p11 fu fv ≤ hi := by
  have hsum : p00 * ((16 - fu) * (16 - fv)) + p10 * (fu * (16 - fv)) + p01 * ((16 - fu) * fv) + p11 * (fu * fv) ≤ hi * 256 :=
    calc p00 * ((16 - fu) * (16 - fv)) + p10 * (fu * (16 - fv)) + p01 * ((16 - fu) * fv) + p11 * (fu * fv)
        ≤ hi * ((16 - fu) * (16 - fv)) + hi * (fu * (16 - fv)) + hi * ((16 - fu) * fv) + hi * (fu * fv) := by gcongr
      _ = hi * 256 := by rw [← Nat.mul_add, ← Nat.mul_add, ← Nat.mul_add, bilinear_weights_sum hu hv]
  rw [bilinear_eq]
  omega

theorem bilinear_zero_zero (p00 p10 p01 p11 : Nat) : bilinear p00 p10 p01 p11 0 0 = p00 := by
  rw [bilinear]
  omega

/-- Four 10-bit levels have a mean of 0 to 1023. -/
theorem bilinear_levels_le (a b c d : BitVec 10) (u v : Nat) : bilinear a.toNat b.toNat c.toNat d.toNat (u % 16) (v % 16) ≤ 1023 := by
  have hle (x : BitVec 10) : x.toNat ≤ 1023 := Nat.le_of_lt_succ x.isLt
  exact bilinear_le (Nat.mod_lt u (by decide)).le (Nat.mod_lt v (by decide)).le (hle a) (hle b) (hle c) (hle d)

/-! ## The clamped neighbours (R99) -/

theorem min_pred_eq_ite {n : Nat} (h : 0 < n) (m : Nat) : min m (n - 1) = if m < n then m else n - 1 := by
  split <;> omega

theorem neighbour_eq (pool : Pool) {shot : Shot} (hwidth : 0 < shot.width) (hlines : 0 < shot.validLines) (column row : Nat) :
    neighbour pool shot column row = Pixel.toSample (pool.pixel shot.slot (if column < shot.width then column else shot.width - 1)
      (if row < shot.validLines then row else shot.validLines - 1)) := by
  rw [neighbour, min_pred_eq_ite hwidth, min_pred_eq_ite hlines]

/-! ## Level matching (R102) -/

/-- R102's Y' before it is saturated; `matchLuma_eq_saturated` ties it to the model. -/
def unsaturatedLuma (y gain : Nat) (offset : Int) : Int := (((y : Int) - 64) * gain + 256) / 512 + 64 + offset

theorem matchLuma_eq_saturated (y gain : Nat) (offset : Int) :
    (matchLuma y gain offset : Int) = max 0 (min 1023 (unsaturatedLuma y gain offset)) := by
  rw [matchLuma, clampInt_eq_max_min (by decide), Int.toNat_of_nonneg (le_max_left ..)]
  rfl

/-- R102's range of Y' before saturation: the product lies between −64 · 1023 and 959 · 1023. -/
theorem unsaturatedLuma_bounds {y gain : Nat} {offset : Int} (hy : y ≤ 1023) (hgain : gain ≤ 1023) (hlo : -256 ≤ offset)
    (hhi : offset ≤ 255) : -320 ≤ unsaturatedLuma y gain offset ∧ unsaturatedLuma y gain offset ≤ 2235 := by
  have hlow : -64 * (gain : Int) ≤ ((y : Int) - 64) * gain := by gcongr; omega
  have hhigh : ((y : Int) - 64) * gain ≤ 959 * (gain : Int) := by gcongr; omega
  rw [unsaturatedLuma]
  omega

/-- Gain 512 with offset 0 changes nothing: the added 256 is lost in the shift. -/
theorem unsaturatedLuma_gain_512 (y : Nat) : unsaturatedLuma y 512 0 = y := by
  rw [unsaturatedLuma]
  omega

theorem unsaturatedLuma_of_black (gain : Nat) (offset : Int) : unsaturatedLuma 64 gain offset = 64 + offset := by
  simp [unsaturatedLuma]

theorem unsaturatedLuma_gain_zero (y : Nat) (offset : Int) : unsaturatedLuma y 0 offset = 64 + offset := by
  simp [unsaturatedLuma]

/-- Saturation leaves a luma that is already in 0 to 1023. -/
theorem matchLuma_of_unsaturatedLuma_mem {y gain : Nat} {offset n : Int} (hraw : unsaturatedLuma y gain offset = n) (hlo : 0 ≤ n)
    (hhi : n ≤ 1023) : (matchLuma y gain offset : Int) = n := by
  rw [matchLuma_eq_saturated, hraw, min_eq_right hhi, max_eq_right hlo]

theorem matchLuma_of_unsaturatedLuma_neg {y gain : Nat} {offset : Int} (h : unsaturatedLuma y gain offset < 0) :
    matchLuma y gain offset = 0 := by
  have hsat := matchLuma_eq_saturated y gain offset
  omega

theorem matchLuma_of_lt_unsaturatedLuma {y gain : Nat} {offset : Int} (h : 1023 < unsaturatedLuma y gain offset) :
    matchLuma y gain offset = 1023 := by
  have hsat := matchLuma_eq_saturated y gain offset
  omega

/-- Settles O50: a sample's components are `bilinear` of the clamped neighbours' levels, and a matched luma is `unsaturatedLuma`
saturated. -/
theorem samplesAreMeansAndMatched : Obligations.SamplesAreMeansAndMatched := by
  refine ⟨fun pool shot p hwidth hlines => ?sample, fun y gain offset hy hgain hlo hhi => ?matched⟩
  case sample =>
    intro px ui vi fu fv mean s
    have hmean (part : Pixel → BitVec 10) : mean part = bilinear (part (px ui vi)).toNat (part (px (ui + 1) vi)).toNat
        (part (px ui (vi + 1))).toNat (part (px (ui + 1) (vi + 1))).toNat fu fv := (bilinear_eq ..).symm
    have hrange (part : Pixel → BitVec 10) : mean part ≤ 1023 := hmean part ▸ bilinear_levels_le ..
    have hs : s = ⟨mean Pixel.y, mean Pixel.cb, mean Pixel.cr⟩ := by
      simp only [hmean, s, sampleAt, neighbour_eq pool hwidth hlines]
      rfl
    have hfirst (hfu : fu = 0) (hfv : fv = 0) (part : Pixel → BitVec 10) : mean part = (part (px ui vi)).toNat := by
      rw [hmean, hfu, hfv, bilinear_zero_zero]
    rw [hs]
    exact ⟨rfl, hrange _, hrange _, hrange _, fun hfu hfv => by simp only [hfirst hfu hfv]⟩
  case matched =>
    refine ⟨unsaturatedLuma_bounds hy hgain hlo hhi, matchLuma_of_unsaturatedLuma_neg, matchLuma_of_lt_unsaturatedLuma,
      matchLuma_of_unsaturatedLuma_mem rfl, ?_, fun hblack => ⟨?_, ?_⟩⟩
    · exact Int.natCast_inj.mp (matchLuma_of_unsaturatedLuma_mem (unsaturatedLuma_gain_512 y) (by omega) (by omega))
    · exact matchLuma_of_unsaturatedLuma_mem (unsaturatedLuma_of_black gain offset) hblack (by omega)
    · exact matchLuma_of_unsaturatedLuma_mem (unsaturatedLuma_gain_zero y offset) hblack (by omega)

end Sys2Proof.Machine
end

section
/-!
PROOFS. The combination of the sources (R98, R102 to R107): the sample each source gives, the blend and its range, the rows of R103's
table, and the statement they settle.
-/
namespace Sys2Proof.Machine

/-! ## The sample of a source (R98, R102) -/

theorem inField_iff (shot : Shot) (p : Coord) : inField shot p = true ↔ p.u < shot.width * 16 ∧ p.v < shot.height * 16 := by
  simp [inField]

theorem sourceSample_none (pool : Pool) (corners : Corners Coord) (i j : Nat) : sourceSample pool none corners i j = none := rfl

section
variable {pool : Pool} {c : Camera} {shot : Shot} {corners : Corners Coord} {i j : Nat}

theorem sourceSample_of_not_usable (hsnap : pool.snapshot.get c = none) : sourceSample pool (some c) corners i j = none := by
  simp only [sourceSample, hsnap]

theorem sourceSample_of_inField (hsnap : pool.snapshot.get c = some shot) (hu : (meshCoord corners i j).u < shot.width * 16)
    (hv : (meshCoord corners i j).v < shot.height * 16) :
    sourceSample pool (some c) corners i j = some (matchSample shot (sampleAt pool shot (meshCoord corners i j))) := by
  simp only [sourceSample, hsnap]
  exact if_pos ((inField_iff shot _).mpr ⟨hu, hv⟩)

theorem sourceSample_of_outside (hsnap : pool.snapshot.get c = some shot)
    (hout : shot.width * 16 ≤ (meshCoord corners i j).u ∨ shot.height * 16 ≤ (meshCoord corners i j).v) :
    sourceSample pool (some c) corners i j = none := by
  simp only [sourceSample, hsnap]
  refine if_neg fun hin => ?_
  obtain ⟨hu, hv⟩ := (inField_iff shot _).mp hin
  omega

end

/-! ## The blend (R104) -/

theorem blendComponent_le {a b w hi : Nat} (hw : w ≤ 256) (ha : a ≤ hi) (hb : b ≤ hi) : blendComponent a b w ≤ hi := by
  have hsum : a * w + b * (256 - w) ≤ hi * 256 :=
    calc a * w + b * (256 - w) ≤ hi * w + hi * (256 - w) := by gcongr
      _ = hi * 256 := by rw [← Nat.mul_add, Nat.add_sub_cancel' hw]
  rw [blendComponent]
  omega

theorem le_blendComponent {a b w lo : Nat} (hw : w ≤ 256) (ha : lo ≤ a) (hb : lo ≤ b) : lo ≤ blendComponent a b w := by
  have hsum : lo * 256 ≤ a * w + b * (256 - w) :=
    calc lo * 256 = lo * w + lo * (256 - w) := by rw [← Nat.mul_add, Nat.add_sub_cancel' hw]
      _ ≤ a * w + b * (256 - w) := by gcongr
  rw [blendComponent]
  omega

theorem blendComponent_between (a b : Nat) {w : Nat} (hw : w ≤ 256) :
    min a b ≤ blendComponent a b w ∧ blendComponent a b w ≤ max a b :=
  ⟨le_blendComponent hw (min_le_left ..) (min_le_right ..), blendComponent_le hw (le_max_left ..) (le_max_right ..)⟩

/-- The full weight gives the first component exactly. -/
@[simp] theorem blendComponent_256 (a b : Nat) : blendComponent a b 256 = a := by
  rw [blendComponent]
  omega

/-- The weight 0 gives the second component exactly. -/
@[simp] theorem blendComponent_zero (a b : Nat) : blendComponent a b 0 = b := by
  rw [blendComponent]
  omega

theorem blend_256 (a b : Sample) : blend a b 256 = a := by
  simp only [blend, blendComponent_256]

theorem blend_zero (a b : Sample) : blend a b 0 = b := by
  simp only [blend, blendComponent_zero]

/-! ## The fills (R106, R107) -/

theorem failed_iff (pool : Pool) (camera : Option Camera) :
    failed pool camera = true ↔ ∃ c, camera = some c ∧ pool.snapshot.get c = none := by
  cases camera with
  | none => simp [failed]
  | some c => simp [failed]

/-- The test of R106: a camera the tile names is not usable. -/
theorem failed_or_failed_iff (pool : Pool) (r : TileRecord) : (failed pool r.primary || failed pool r.secondary) = true ↔
    ∃ c, (r.primary = some c ∨ r.secondary = some c) ∧ pool.snapshot.get c = none := by
  simp only [Bool.or_eq_true, failed_iff, or_and_right, exists_or]

section
variable {sc : Scene} {r : TileRecord} (x y w : Nat)

theorem combine_none_none_of_failed (h : ∃ c, (r.primary = some c ∨ r.secondary = some c) ∧ sc.pool.snapshot.get c = none) :
    combine sc r x y w none none = Pixel.toSample (faultFill sc.header x y) :=
  if_pos ((failed_or_failed_iff sc.pool r).mpr h)

theorem combine_none_none_of_usable (h : ∀ c, r.primary = some c ∨ r.secondary = some c → sc.pool.snapshot.get c ≠ none) :
    combine sc r x y w none none = Pixel.toSample sc.header.background :=
  if_neg fun hfailed =>
    have ⟨c, hnamed, hnone⟩ := (failed_or_failed_iff sc.pool r).mp hfailed
    h c hnamed hnone

end

/-- Settles O51: the rows of R103's table are the branches of `combine`, the field test those of `sourceSample`. -/
theorem combinationTakesTheFirstRow : Obligations.CombinationTakesTheFirstRow := by
  intro sc r x y w a b hw
  refine ⟨fun corners i j => ⟨sourceSample_none .., fun c => ⟨sourceSample_of_not_usable, fun shot hsnap => ⟨?_, ?_⟩⟩⟩,
    rfl, rfl, ?_, ?_, ?_, ?_, ?_, rfl, rfl, ?_, ?_⟩
  · exact sourceSample_of_inField hsnap
  · exact sourceSample_of_outside hsnap
  · exact blendComponent_between a.y b.y hw
  · exact blendComponent_between a.cb b.cb hw
  · exact blendComponent_between a.cr b.cr hw
  · exact blend_256 a b
  · exact blend_zero a b
  · exact combine_none_none_of_failed x y w
  · exact combine_none_none_of_usable x y w

end Sys2Proof.Machine
end

section
/-!
PROOFS. Signal messages (R115, R181, R185): the reading of a value, what the selector applies or drops, and the statement they settle.
-/
namespace Sys2Proof.Machine

/-! ## The value of a signal message (R185) -/

theorem u16_pair (lo hi : Byte) : u16 [lo, hi] 0 = (hi ++ lo).toNat := by
  have hcat : (hi ++ lo).toNat = hi.toNat * 256 + lo.toNat := by
    rw [BitVec.toNat_append, ← Nat.shiftLeft_add_eq_or_of_lt lo.isLt, Nat.shiftLeft_eq]
  rw [hcat, Nat.mul_comm, Nat.add_comm]
  rfl

theorem s16_pair (lo hi : Byte) : s16 [lo, hi] 0 = (hi ++ lo).toInt := by
  rw [s16, u16_pair, BitVec.toInt_eq_toNat_cond]
  split_ifs <;> omega

@[simp] theorem gear?_code (g : Gear) : gear? g.code = some g := by
  cases g <;> rfl

@[simp] theorem indicator?_code (i : Indicator) : indicator? i.code = some i := by
  cases i <;> rfl

theorem gear?_eq_none {b : Nat} (h : 3 < b) : gear? b = none := by
  obtain ⟨n, rfl⟩ := Nat.exists_eq_add_of_le' h
  rfl

theorem indicator?_eq_none {b : Nat} (h : 3 < b) : indicator? b = none := by
  obtain ⟨n, rfl⟩ := Nat.exists_eq_add_of_le' h
  rfl

/-! ## What is applied and what is dropped (R115) -/

/-- What an applied message has passed: a defined kind, the kind's own length, and a defined GEAR or INDICATOR value. -/
theorem signalFormed_of_applySignal {x y : SignalTable} {now : PartTime} {m : Message} (h : applySignal x now m = some y) :
    (m.kind.toNat = 1 ∨ m.kind.toNat = 2) ∧ m.length.toNat = 2 ∨
      (m.kind.toNat = 3 ∨ m.kind.toNat = 4) ∧ m.length.toNat = 1 ∧ u8 m.payload 0 ≤ 3 ∨
      m.kind.toNat = 5 ∧ m.length.toNat = 1 := by
  unfold applySignal at h
  split at h
  case h_1 hkind hlen => exact .inl ⟨.inl hkind, hlen⟩
  case h_2 hkind hlen => exact .inl ⟨.inr hkind, hlen⟩
  case h_3 hkind hlen =>
    refine .inr (.inl ⟨.inl hkind, hlen, Nat.not_lt.mp fun hcode => ?_⟩)
    simp [gear?_eq_none hcode] at h
  case h_4 hkind hlen =>
    refine .inr (.inl ⟨.inr hkind, hlen, Nat.not_lt.mp fun hcode => ?_⟩)
    simp [indicator?_eq_none hcode] at h
  case h_5 hkind hlen => exact .inr (.inr ⟨hkind, hlen⟩)
  case h_6 => cases h

/-- The three causes of a drop: an undefined kind, a length that does not suit the kind, an undefined GEAR or INDICATOR value. -/
theorem applySignal_eq_none (x : SignalTable) (now : PartTime) {m : Message}
    (h : m.kind = 0 ∨ 5 < m.kind.toNat ∨ (m.kind = 1 ∨ m.kind = 2) ∧ m.length ≠ 2 ∨
      (m.kind = 3 ∨ m.kind = 4 ∨ m.kind = 5) ∧ m.length ≠ 1 ∨ (m.kind = 3 ∨ m.kind = 4) ∧ 3 < u8 m.payload 0) :
    applySignal x now m = none := by
  refine Option.eq_none_iff_forall_ne_some.mpr fun y happlied => ?_
  have hformed := signalFormed_of_applySignal happlied
  bv_omega

/-! ## The command -/

section
variable {s : State} {t : PartTime} {m : Message}

theorem exec_signalMessage (hcls : m.cls = 2) : exec (.signalMessage t m) s = .next ((s.atTime t).signalMessage m) :=
  congrArg Host.Outcome.next (if_pos hcls)

theorem exec_signalMessage_of_applied {signals : SignalTable} (hcls : m.cls = 2)
    (h : applySignal s.selector.signals t m = some signals) :
    exec (.signalMessage t m) s = .next { s with partTime := t, selector := { s.selector with signals := signals } } := by
  rw [exec_signalMessage hcls, State.signalMessage, State.atTime_selector, State.atTime_partTime, h]
  rfl

theorem exec_signalMessage_of_dropped (hcls : m.cls = 2) (h : applySignal s.selector.signals t m = none) :
    exec (.signalMessage t m) s = .next ({ s with
      partTime := t, mgmt := { s.mgmt with signalDrops := raise s.mgmt.signalDrops 1 } }.latched .signalDropped) := by
  rw [exec_signalMessage hcls, State.signalMessage, State.atTime_selector, State.atTime_partTime, h]
  rfl

end

/-- Settles O29: the five kinds are the five branches of `applySignal` that answer a table, and the causes of a drop leave only the
branch that answers none. -/
theorem signalMessageIsAppliedOrDropped : Obligations.SignalMessageIsAppliedOrDropped := by
  intro s t tag target sub lo hi b index m
  refine ⟨?steer, ?speed, fun g hg => ?gear, fun i hi => ?indicator, ?body, fun hcls hcause => ?dropped⟩
  case steer =>
    rw [← s16_pair, ← clampInt_eq_max_min (by decide)]
    exact exec_signalMessage_of_applied rfl rfl
  case speed =>
    rw [← u16_pair, ← clampNat_zero]
    exact exec_signalMessage_of_applied rfl rfl
  case gear =>
    have hread : gear? b.toNat = some g := by rw [hg, gear?_code]
    exact exec_signalMessage_of_applied rfl (congrArg (Option.map _) hread)
  case indicator =>
    have hread : indicator? b.toNat = some i := by rw [hi, indicator?_code]
    exact exec_signalMessage_of_applied rfl (congrArg (Option.map _) hread)
  case body => exact exec_signalMessage_of_applied rfl rfl
  case dropped => exact exec_signalMessage_of_dropped hcls (applySignal_eq_none _ _ hcause)

end Sys2Proof.Machine
end

section
/-!
PROOFS. The conditions of a selection rule and the ageing of a signal (R116, R117, R121): one equivalence for each kind of condition,
and the statement they settle.
-/
namespace Sys2Proof.Machine

/-! ## The conditions of a rule (R121) -/

theorem setPasses_map_iff {α : Type} (set : BitVec 4) (code : α → Nat) (reading : Option α) :
    setPasses set (reading.map code) = true ↔ set = 15 ∨ ∃ a, reading = some a ∧ member set (code a) = true := by
  cases reading with
  | none => simp [setPasses]
  | some a => simp [setPasses]

theorem speedPasses_iff (cond : RangeCondition Nat) (reading : Option Nat) :
    speedPasses cond reading = true ↔
      cond = .any ∨ ∃ low high v, cond = .range low high ∧ reading = some v ∧ low ≤ v ∧ v ≤ high := by
  cases cond with
  | any => simp [speedPasses]
  | range low high => cases reading <;> simp [speedPasses]

theorem steerPasses_iff (cond : RangeCondition Int) (reading : Option Int) :
    steerPasses cond reading = true ↔
      cond = .any ∨ ∃ low high v, cond = .range low high ∧ reading = some v ∧ low ≤ v ∧ v ≤ high := by
  cases cond with
  | any => simp [steerPasses]
  | range low high => cases reading <;> simp [steerPasses]

/-- Equality under a mask is equality of the flags the mask names. -/
theorem and_eq_and_iff_member (b value mask : Byte) :
    b &&& mask = value &&& mask ↔ ∀ n, n < 8 → member mask n = true → member b n = member value n := by
  have hflag : ∀ x y named : Bool, (x && named) = (y && named) ↔ (named = true → x = y) := by decide
  simp only [BitVec.eq_of_getLsbD_eq_iff, BitVec.getLsbD_and, hflag, member]

theorem bodyPasses_iff (value mask : Byte) (reading : Option Byte) :
    bodyPasses value mask reading = true ↔
      mask = 0 ∨ ∃ b, reading = some b ∧ ∀ n, n < 8 → member mask n = true → member b n = member value n := by
  cases reading with
  | none => simp [bodyPasses]
  | some b => simp [bodyPasses, and_eq_and_iff_member]

theorem Rule.passes_iff (r : Rule) (x : SignalSnapshot) :
    r.passes x = true ↔
      setPasses r.gearSet (x.gear.map Gear.code) = true ∧ setPasses r.indicatorSet (x.indicator.map Indicator.code) = true ∧
        speedPasses r.speed x.speed = true ∧ steerPasses r.steer x.steer = true ∧
        bodyPasses r.bodyValue r.bodyMask x.body = true := by
  simp only [Rule.passes, Bool.and_eq_true, and_assoc]

/-! ## Ageing and reading an entry (R116, R117) -/

section
variable {α : Type} {e : SignalEntry α} {now : PartTime} {ms : Nat}

theorem SignalEntry.aged_of_late (hcurrent : e.status = .current) (hlate : ms * 1000 < (now - e.arrival).toNat) :
    e.aged now ms = { e with status := .expired } :=
  if_pos ⟨hcurrent, hlate⟩

theorem SignalEntry.aged_of_not_late (h : e.status ≠ .current ∨ (now - e.arrival).toNat ≤ ms * 1000) : e.aged now ms = e :=
  if_neg fun ⟨hcurrent, hlate⟩ => h.elim (absurd hcurrent) (Nat.not_le.mpr hlate)

theorem SignalEntry.reading_of_current (h : e.status = .current) : e.reading = some e.value := if_pos h

theorem SignalEntry.reading_of_not_current (h : e.status ≠ .current) : e.reading = none := if_neg h

end

/-- Settles O46: a rule passes when its five conditions do, each by its row of R121's table; ageing and reading are the two branches of
an entry's status. -/
theorem ruleConditionsFailOnUnknown : Obligations.RuleConditionsFailOnUnknown := by
  refine ⟨fun r x => ?_, fun x now o => rfl, fun α e now ms => ⟨SignalEntry.aged_of_late, SignalEntry.aged_of_not_late,
    SignalEntry.reading_of_current, SignalEntry.reading_of_not_current⟩⟩
  rw [Rule.passes_iff, setPasses_map_iff, setPasses_map_iff, speedPasses_iff, steerPasses_iff, bodyPasses_iff]

end Sys2Proof.Machine
end

section
/-!
PROOFS. EVENT_TAKE (R178, R180, R184, R188): the six bytes of a mask and of the latches, the clearing of a mask's latches, and the
statement they settle.
-/
namespace Sys2Proof.Machine

/-! ## A number in six bytes (R184, R188) -/

/-- A number as a little-endian 48-bit field. -/
def le48 (n : Nat) : List Byte := (List.range 6).map fun i => byteOf (n / 256 ^ i)

theorem u8_le48 (n : Nat) {i : Nat} (hi : i < 6) : u8 (le48 n) i = n / 256 ^ i % 256 := by
  simp [u8, byteAt, le48, byteOf, hi]

theorem u16_le48 (n : Nat) {i : Nat} (hi : i + 1 < 6) : u16 (le48 n) i = n / 256 ^ i % 65536 := by
  rw [u16, u8_le48 n (Nat.lt_of_succ_lt hi), u8_le48 n hi, pow_succ, ← Nat.div_div_eq_div_mul]
  omega

/-- The mask of an EVENT_TAKE is the number its payload lays out. -/
theorem takeMask_le48 {n : Nat} (h : n < 2 ^ 48) : takeMask (le48 n) = n := by
  rw [takeMask, u16_le48 n (by decide), u16_le48 n (by decide), u16_le48 n (by decide)]
  omega

/-- The payload of the reply is the number of the latches in six bytes. -/
theorem encodeLatches_eq_le48 (l : Latches) : encodeLatches l = le48 l.toNat := by
  simp [encodeLatches, le16, le48, List.range_succ, Nat.div_div_eq_div_mul]

/-! ## The latches a mask leaves (R180) -/

theorem member_and_not_ofNat (l : Latches) (mask : Nat) {n : Nat} (hn : n < 43) :
    member (l &&& ~~~ BitVec.ofNat 43 mask) n = (member l n && !mask.testBit n) := by
  simp only [member, BitVec.getLsbD_and, BitVec.getLsbD_not, BitVec.getLsbD_ofNat, hn, decide_true, Bool.true_and]

theorem eventTakeEffect_done {m : Message} (s : State) (h : takeMask m.payload < 2 ^ 43) :
    eventTakeEffect m s =
      done (s.setMgmt { s.mgmt with latches := s.mgmt.latches &&& ~~~ BitVec.ofNat 43 (takeMask m.payload) })
        (encodeLatches s.mgmt.latches) :=
  if_pos h

theorem eventTakeEffect_malformed {m : Message} (s : State) (h : 2 ^ 43 ≤ takeMask m.payload) :
    eventTakeEffect m s = refuse s .malformed :=
  if_neg (Nat.not_lt.mpr h)

/-! ## The command -/

/-- An awaited EVENT_TAKE is replied to with what `eventTakeEffect` answers. -/
theorem exec_eventTake_of_answer {s s' : State} {t : PartTime} {rest : List Message} {tag target sub : Byte} {index : BitVec 16}
    {mask : Nat} {r : Result} {p : List Byte} (h : s.Awaits (request 8 tag target sub index (le48 mask)) rest)
    (hanswer : eventTakeEffect (request 8 tag target sub index (le48 mask)) (s.taken t rest) = ⟨s', some (r, p)⟩) :
    exec (.eventTake t) s = .next (s'.answered tag 8 0 r p) :=
  congrArg _ (executeRequest_of_answer h rfl rfl hanswer)

/-- Settles O43: the payload lays out the mask, and whether the mask is below 2^43 decides between the two branches of
`eventTakeEffect`; the numbers of R178 are those of `Latch.number`. -/
theorem eventTakeReadsAndClears : Obligations.EventTakeReadsAndClears := by
  refine ⟨⟨fun c => ⟨rfl, rfl, rfl, rfl, rfl⟩, fun z => ⟨rfl, rfl⟩, rfl⟩, ?_⟩
  intro s t rest tag target sub index mask hmask hawaits
  have hread : takeMask (request 8 tag target sub index (le48 mask)).payload = mask := takeMask_le48 hmask
  refine ⟨fun hnamed => ⟨s.mgmt.latches &&& ~~~ BitVec.ofNat 43 mask, ?taken, fun n => member_and_not_ofNat _ mask⟩,
    fun hbeyond => ?malformed⟩
  case taken =>
    have hanswer := eventTakeEffect_done (s.taken t rest) (hread.trans_lt hnamed)
    rw [hread, encodeLatches_eq_le48] at hanswer
    exact exec_eventTake_of_answer hawaits hanswer
  case malformed =>
    exact exec_eventTake_of_answer hawaits (eventTakeEffect_malformed _ (hbeyond.trans_eq hread.symm))

end Sys2Proof.Machine
end

section
/-!
PROOFS. What one command can make of a state, said once: the effect of each row of requests, every state that can follow, and the
statements of the machine and of the executor that rest on it (R60, R70, R167 to R171).
-/
namespace Sys2Proof.Machine

/-! ## The effect of a row (R170) -/

/-- The effect that a row's command hands to the executor; `exec_command` ties it to the model. -/
def RequestRow.effect : RequestRow → Message → State → Answer
  | .undefinedRequest => undefinedEffect
  | .statusRead => statusReadEffect
  | .tableWriteCameraRecord => writeCameraRecord
  | .tableWriteViewHeader => writeViewHeader
  | .tableWriteTile => writeTile
  | .tableWriteOverlayElement => writeElement
  | .tableWritePaletteEntry => writePalette
  | .tableWriteSpriteChunk => writeSprite
  | .tableWritePathBand => writeBand
  | .tableWriteRule => writeRule
  | .tableWriteSelectionSettings => writeSettings
  | .tableWriteZoneRecord => writeZoneRecord
  | .tableWriteSignalTimeouts => writeTimeouts
  | .tableWriteCounters => writeCounters
  | .tableReadCameraRecord => readCamera
  | .tableReadViewHeader => readHeader
  | .tableReadTile => readTileRecord
  | .tableReadOverlayElement => readElementRecord
  | .tableReadPaletteEntry => readPaletteEntry
  | .tableReadSpriteChunk => readSprite
  | .tableReadPathBand => readBandRecord
  | .tableReadRule => readRuleRecord
  | .tableReadSelectionSettings => readSettings
  | .tableReadZoneRecord => readZone
  | .tableReadSignalTimeouts => readTimeoutsRecord
  | .tableReadCounters => readCounters
  | .viewOpenFresh => openFreshEffect
  | .viewOpenEdit => openEditEffect
  | .viewClose => closeEffect
  | .viewWithdraw => withdrawEffect
  | .viewRestore => restoreEffect
  | .overlaySwap => swapEffect
  | .cameraEnable => enableEffect
  | .cameraDisable => disableEffect
  | .cameraRestart => restartCameraEffect
  | .viewForce => forceEffect
  | .viewForceRelease => releaseEffect
  | .eventTake => eventTakeEffect
  | .format => formatEffect
  | .run => runEffect
  | .restart => restartEffect

/-- A row's command is one execution of that row. -/
theorem exec_command (row : RequestRow) (t : PartTime) (s : State) :
    exec (row.command t) s = .next (executeRequest row t row.effect s) := by
  cases row <;> rfl

/-! ## Every state that can follow -/

/-- Everything one command can make of a state: the event it stands for at its part time, only part time passed, the head of the
request queue refused whole, or its effect made. -/
inductive Follows (s : State) : State → Prop
  | powerOn : Follows s s.powerOn
  | time (t : PartTime) : Follows s (s.atTime t)
  | frameOpen (t : PartTime) (c : Camera) (number : BitVec 16) : Follows s ((s.atTime t).frameOpen c number)
  | line (t : PartTime) (c : Camera) (n : BitVec 16) (samples : LineSamples) (good : Bool) :
    Follows s ((s.atTime t).line c n samples good)
  | frameClose (t : PartTime) (c : Camera) (claimed : BitVec 16) : Follows s ((s.atTime t).frameClose c claimed)
  | linkDown (t : PartTime) (c : Camera) : Follows s ((s.atTime t).linkDown c)
  | lossExpiry (t : PartTime) (c : Camera) : Follows s ((s.atTime t).lossExpiry c)
  | lockFormat (t : PartTime) : Follows s (s.atTime t).lockFormat
  | lockRelock (t : PartTime) : Follows s (s.atTime t).lockRelock
  | expireFormat (t : PartTime) : Follows s (s.atTime t).expireFormat
  | expireRelock (t : PartTime) : Follows s (s.atTime t).expireRelock
  | unlock (t : PartTime) : Follows s (s.atTime t).unlock
  | holdExpiry (t : PartTime) (z : ZoneNo) : Follows s ((s.atTime t).holdExpiry z)
  | frameStart (t : PartTime) : Follows s (s.atTime t).frameStart
  | frameDone (t : PartTime) : Follows s (s.atTime t).frameDone
  | blanking (t : PartTime) : Follows s (s.atTime t).blanking
  | receive (t : PartTime) (m : Message) : Follows s ((s.atTime t).receive m)
  | malformed (t : PartTime) (m : Message) (rest : List Message) (head : s.mgmt.requests = m :: rest)
    (idle : s.mgmt.executor = .idle) (room : s.mgmt.replies.length < 16) :
    Follows s ((s.taken t rest).pushReply m .malformed [])
  | executed (row : RequestRow) (t : PartTime) (m : Message) (rest : List Message) (head : s.mgmt.requests = m :: rest)
    (idle : s.mgmt.executor = .idle) (hrow : requestRow m = row) (room : s.mgmt.replies.length < 16 ∨ row = .restart) :
    Follows s ((row.effect m (s.taken t rest)).settle m)

/-- One execution of a row follows, whether the executor waits, refuses or takes effect (R168, R170). -/
theorem follows_executeRequest (row : RequestRow) (t : PartTime) (s : State) : Follows s (executeRequest row t row.effect s) := by
  rcases executeRequest_cases row t row.effect s with hw | ⟨m, rest, hhead, hidle, hrow, hroom, ⟨hbad, he⟩ | ⟨-, he⟩⟩
  · rw [hw]
    exact .time t
  · rw [he]
    refine .malformed t m rest hhead hidle (hroom.resolve_right fun hr => ?_)
    simp [isRestart, hbad] at hr
  · rw [he]
    refine .executed row t m rest hhead hidle hrow (hroom.imp_right fun hr => ?_)
    simp only [isRestart, Bool.and_eq_true, decide_eq_true_eq] at hr
    exact hrow.symm.trans hr.1

/-- Every command has a next state, and it is one that follows. -/
theorem exec_follows (i : Instr) (s : State) : ∃ s', exec i s = .next s' ∧ Follows s s' := by
  cases i with
  | powerOn => exact ⟨_, rfl, .powerOn⟩
  | frameOpen t c number => exact ⟨_, rfl, .frameOpen t c number⟩
  | line t c n samples good => exact ⟨_, rfl, .line t c n samples good⟩
  | frameClose t c claimed => exact ⟨_, rfl, .frameClose t c claimed⟩
  | linkDown t c => exact ⟨_, rfl, .linkDown t c⟩
  | linkUp t c => exact ⟨_, rfl, .time t⟩
  | lossTimerExpiry t c => exact ⟨_, rfl, .lossExpiry t c⟩
  | lockEventFormat t => exact ⟨_, rfl, .lockFormat t⟩
  | lockEventRelock t => exact ⟨_, rfl, .lockRelock t⟩
  | formatLockExpiry t => exact ⟨_, rfl, .expireFormat t⟩
  | relockExpiry t => exact ⟨_, rfl, .expireRelock t⟩
  | unlockEvent t => exact ⟨_, rfl, .unlock t⟩
  | holdTimerExpiry t z => exact ⟨_, rfl, .holdExpiry t z⟩
  | outputFrameStart t => exact ⟨_, rfl, .frameStart t⟩
  | frameDone t => exact ⟨_, rfl, .frameDone t⟩
  | blanking t => exact ⟨_, rfl, .blanking t⟩
  | requestArrival t m => exact ⟨_, rfl, .receive t m⟩
  | signalMessage t m => exact ⟨_, rfl, .receive t m⟩
  | undefinedRequest t => exact ⟨_, rfl, follows_executeRequest .undefinedRequest t s⟩
  | statusRead t => exact ⟨_, rfl, follows_executeRequest .statusRead t s⟩
  | tableWriteCameraRecord t => exact ⟨_, rfl, follows_executeRequest .tableWriteCameraRecord t s⟩
  | tableWriteViewHeader t => exact ⟨_, rfl, follows_executeRequest .tableWriteViewHeader t s⟩
  | tableWriteTile t => exact ⟨_, rfl, follows_executeRequest .tableWriteTile t s⟩
  | tableWriteOverlayElement t => exact ⟨_, rfl, follows_executeRequest .tableWriteOverlayElement t s⟩
  | tableWritePaletteEntry t => exact ⟨_, rfl, follows_executeRequest .tableWritePaletteEntry t s⟩
  | tableWriteSpriteChunk t => exact ⟨_, rfl, follows_executeRequest .tableWriteSpriteChunk t s⟩
  | tableWritePathBand t => exact ⟨_, rfl, follows_executeRequest .tableWritePathBand t s⟩
  | tableWriteRule t => exact ⟨_, rfl, follows_executeRequest .tableWriteRule t s⟩
  | tableWriteSelectionSettings t => exact ⟨_, rfl, follows_executeRequest .tableWriteSelectionSettings t s⟩
  | tableWriteZoneRecord t => exact ⟨_, rfl, follows_executeRequest .tableWriteZoneRecord t s⟩
  | tableWriteSignalTimeouts t => exact ⟨_, rfl, follows_executeRequest .tableWriteSignalTimeouts t s⟩
  | tableWriteCounters t => exact ⟨_, rfl, follows_executeRequest .tableWriteCounters t s⟩
  | tableReadCameraRecord t => exact ⟨_, rfl, follows_executeRequest .tableReadCameraRecord t s⟩
  | tableReadViewHeader t => exact ⟨_, rfl, follows_executeRequest .tableReadViewHeader t s⟩
  | tableReadTile t => exact ⟨_, rfl, follows_executeRequest .tableReadTile t s⟩
  | tableReadOverlayElement t => exact ⟨_, rfl, follows_executeRequest .tableReadOverlayElement t s⟩
  | tableReadPaletteEntry t => exact ⟨_, rfl, follows_executeRequest .tableReadPaletteEntry t s⟩
  | tableReadSpriteChunk t => exact ⟨_, rfl, follows_executeRequest .tableReadSpriteChunk t s⟩
  | tableReadPathBand t => exact ⟨_, rfl, follows_executeRequest .tableReadPathBand t s⟩
  | tableReadRule t => exact ⟨_, rfl, follows_executeRequest .tableReadRule t s⟩
  | tableReadSelectionSettings t => exact ⟨_, rfl, follows_executeRequest .tableReadSelectionSettings t s⟩
  | tableReadZoneRecord t => exact ⟨_, rfl, follows_executeRequest .tableReadZoneRecord t s⟩
  | tableReadSignalTimeouts t => exact ⟨_, rfl, follows_executeRequest .tableReadSignalTimeouts t s⟩
  | tableReadCounters t => exact ⟨_, rfl, follows_executeRequest .tableReadCounters t s⟩
  | viewOpenFresh t => exact ⟨_, rfl, follows_executeRequest .viewOpenFresh t s⟩
  | viewOpenEdit t => exact ⟨_, rfl, follows_executeRequest .viewOpenEdit t s⟩
  | viewClose t => exact ⟨_, rfl, follows_executeRequest .viewClose t s⟩
  | viewWithdraw t => exact ⟨_, rfl, follows_executeRequest .viewWithdraw t s⟩
  | viewRestore t => exact ⟨_, rfl, follows_executeRequest .viewRestore t s⟩
  | overlaySwap t => exact ⟨_, rfl, follows_executeRequest .overlaySwap t s⟩
  | cameraEnable t => exact ⟨_, rfl, follows_executeRequest .cameraEnable t s⟩
  | cameraDisable t => exact ⟨_, rfl, follows_executeRequest .cameraDisable t s⟩
  | cameraRestart t => exact ⟨_, rfl, follows_executeRequest .cameraRestart t s⟩
  | viewForce t => exact ⟨_, rfl, follows_executeRequest .viewForce t s⟩
  | viewForceRelease t => exact ⟨_, rfl, follows_executeRequest .viewForceRelease t s⟩
  | eventTake t => exact ⟨_, rfl, follows_executeRequest .eventTake t s⟩
  | format t => exact ⟨_, rfl, follows_executeRequest .format t s⟩
  | run t => exact ⟨_, rfl, follows_executeRequest .run t s⟩
  | restart t => exact ⟨_, rfl, follows_executeRequest .restart t s⟩

/-- A step idles, or leaves a state that follows the one with the front command off the queue. -/
theorem step_cases {s s' : State} (h : step s = .next s') : s' = s ∨ ∃ rest, Follows (s.setPending rest) s' := by
  unfold step at h
  cases hp : s.pending with
  | nil =>
    rw [hp] at h
    exact .inl (Host.Outcome.next.inj h).symm
  | cons i rest =>
    rw [hp] at h
    obtain ⟨s1, he, hf⟩ := exec_follows i (s.setPending rest)
    cases he.symm.trans h
    exact .inr ⟨rest, hf⟩

/-- A predicate that does not look at the queue of commands, and that every state that follows keeps, is kept by every step. -/
theorem step_keeps {P : State → Prop} (hpending : ∀ s l, P s → P (s.setPending l)) (hfollows : ∀ s s', P s → Follows s s' → P s')
    {s s' : State} (hs : P s) (h : step s = .next s') : P s' := by
  rcases step_cases h with rfl | ⟨rest, hf⟩
  · exact hs
  · exact hfollows _ _ (hpending _ rest hs) hf

/-- Settles O1: the two branches of `step`. -/
theorem stepExecutesTheFrontCommand : Obligations.StepExecutesTheFrontCommand := by
  refine ⟨fun c rest s h => ?_, fun s h => ?_⟩
  · rw [step, h]
    rfl
  · rw [step, h]

/-! ## The executor waits (R60, R170) -/

/-- Nothing is taken while an attempt is in execution. -/
theorem canTake_of_not_idle {s : State} (h : s.mgmt.executor ≠ .idle) : canTake s = false := by
  cases hx : s.mgmt.executor with
  | idle => exact absurd hx h
  | attempt m => simp [canTake, hx]

/-- A RESTART of length 0 is what needs no reply room (R170). -/
theorem isRestart_iff (m : Message) : isRestart m = true ↔ m.cls = 1 ∧ m.kind = 11 ∧ m.length = 0 := by
  constructor
  · intro h
    simp only [isRestart, wholeMessageOk, Bool.and_eq_true, decide_eq_true_eq] at h
    obtain ⟨hrow, ⟨-, -⟩, hlen⟩ := h
    have hcls : m.cls = 1 := by
      by_contra hne
      rw [requestRow, if_pos hne] at hrow
      cases hrow
    have hkind : m.kind.toNat = 11 := by
      revert hrow
      simp only [requestRow, hcls, ne_eq, not_true_eq_false, if_false]
      unfold writeRow readRow viewRow cameraRow
      repeat' split
      all_goals simp_all
    rw [lengthSuits, hkind] at hlen
    refine ⟨hcls, BitVec.eq_of_toNat_eq hkind, BitVec.eq_of_toNat_eq ?_⟩
    simpa using hlen
  · rintro ⟨hcls, hkind, hlen⟩
    simp [isRestart, wholeMessageOk, requestRow, bankDefined, isTableRequest, lengthSuits, hcls, hkind, hlen]

/-- Settles O31: where `takeRequest` takes nothing, only part time passes. -/
theorem theExecutorWaits : Obligations.TheExecutorWaits := by
  intro s t row h
  rw [exec_command, executeRequest_waits]
  · rfl
  rcases h with hidle | hnone | ⟨m, rest, hhead, hrow | ⟨hfull, hrestart⟩⟩
  · have hcan := canTake_of_not_idle (s := s.atTime t) hidle
    unfold takeRequest
    split <;> simp [hcan]
  · simp [takeRequest, hnone]
  · simp [takeRequest, hhead, hrow]
  · rw [← isRestart_iff] at hrestart
    have hcan : canTake (s.atTime t) = false := by
      unfold canTake
      split
      · rename_i hq
        cases hhead.symm.trans hq
        simp [hrestart, Nat.not_lt.mpr hfull]
      · rfl
    simp [takeRequest, hhead, hcan]

/-! ## Arrival (R167, R169) -/

/-- Settles O28: the two branches of `State.offerRequest`. -/
theorem requestArrivalJoinsOrIsDropped : Obligations.RequestArrivalJoinsOrIsDropped := by
  refine ⟨raise_toNat, fun s t m hcls => ?_⟩
  have hexec : exec (.requestArrival t m) s = .next ((s.atTime t).offerRequest m) := congrArg Host.Outcome.next (if_neg hcls)
  refine ⟨fun hroom => ?_, fun hfull => ?_⟩
  · exact hexec.trans (congrArg _ (if_pos hroom))
  · exact hexec.trans (congrArg _ (if_neg (Nat.not_lt.mpr hfull)))

end Sys2Proof.Machine
end

section
/-!
PROOFS. Everything the execution of a request can do, said once for the 41 rows (chapter 9, and the request rules of chapters 1 to 8).
-/
namespace Sys2Proof.Machine

/-- What an overlay write can do to the bank it reaches (R138, R139). -/
inductive Bank.Write (m : Message) : (Bank → Bank) → Prop
  | element (i : Fin 64) (e : Element) (hread : readElement m.payload = .ok e) :
    Bank.Write m fun x => { x with elements := Table.write Element.cleared x.elements i.val e }
  | palette (i : Fin 16) :
    Bank.Write m fun x => { x with palette := Table.write PaletteEntry.cleared x.palette i.val (readPalette m.payload) }
  | sprite (harea : chunkInArea m.index.toNat m.length.toNat = true) :
    Bank.Write m fun x => { x with sprites := Table.writeMany 0 x.sprites m.index.toNat (chunkBytes m) }
  | band (i : Fin 31) (l : List Span) (hread : readBand m.payload = .ok l) :
    Bank.Write m fun x => { x with bands := Table.write [] x.bands i.val l }

/-- Everything the execution of a request can answer: a reply with nothing changed, or one of the effects that change the state, with
the tests that its rule makes before it. -/
inductive Effect (m : Message) (s : State) : Answer → Prop
  | same (r : Result) (p : List Byte) : Effect m s ⟨s, some (r, p)⟩
  | cameraRecord (c : Camera) (r : CameraRecord) (hread : readCameraRecord m.payload = .ok r) (hoff : (s.channel c).state = .off)
    (hheld : ∀ k ∈ (s.channel c).record.slotList, ∀ d f o, s.pool.slot k ≠ .held d f o)
    (hconflict : ∀ k ∈ r.slotList, ∀ d, d ≠ c → k ∉ (s.channel d).record.slotList) (p : List Byte) :
    Effect m s (done (s.setChannel c { s.channel c with record := r }) p)
  | viewHeader (v : ViewNo) (h : ViewHeader) (hread : readViewHeader m.payload = .ok h) (hstate : (s.view v).state = .loading)
    (p : List Byte) : Effect m s (done (s.setView v { s.view v with header := h, headerWritten := true }) p)
  | tile (v : ViewNo) (i : Fin 1024) (r : TileRecord) (hread : readTile m.payload = .ok r) (hstate : (s.view v).state = .loading)
    (p : List Byte) : Effect m s (done (s.setView v ((s.view v).writeTile i.val r)) p)
  | bank (which : BankId) (f : Bank → Bank) (hwrite : Bank.Write m f) (p : List Byte) :
    Effect m s (done (s.setOverlay (s.overlay.setBank which (f (s.overlay.bank which)))) p)
  | rule (i : Fin 16) (r : Rule) (hread : readRule m.payload = .ok r) (p : List Byte) :
    Effect m s (done (s.setSelector { s.selector with rules := Table.write Rule.cleared s.selector.rules i.val r }) p)
  | settings (v : ViewNo) (dwell : Nat) (hdwell : dwell ≤ 2000)
    (hvalid : s.output.opState = .run → (s.view v).state = .valid) (p : List Byte) :
    Effect m s (done (s.setSelector { s.selector with defaultView := v, dwell := dwell }) p)
  | timeouts (p : List Byte) : Effect m s (done (s.setSelector { s.selector with timeouts := readTimeouts m.payload }) p)
  | zoneRecord (z : ZoneNo) (r : ZoneRecord) (hread : readZoneRecord m.payload = .ok r) (p : List Byte) :
    Effect m s (done (s.writeZone z r) p)
  | openFresh (v : ViewNo) (hstate : (s.view v).state = .empty ∨ s.selector.current ≠ some v)
    (hguard : (s.view v).state = .valid → ¬ (v = s.selector.defaultView ∧ s.output.opState = .run)) (p : List Byte) :
    Effect m s (done (s.openFresh v) p)
  | openEdit (v : ViewNo) (hstate : (s.view v).state = .withdrawn) (huse : s.selector.current ≠ some v) (p : List Byte) :
    Effect m s (done (s.setViewState v .loading) p)
  | validate (v : ViewNo) (hstate : (s.view v).state = .loading ∨ (s.view v).state = .withdrawn)
    (hgrid : s.output.opState = .run → (s.view v).fitsGrid s.output.format = true) (p : List Byte) :
    Effect m s (done (s.setViewState v .valid) p)
  | withdraw (v : ViewNo) (hstate : (s.view v).state = .valid)
    (hguard : ¬ (v = s.selector.defaultView ∧ s.output.opState = .run)) (p : List Byte) :
    Effect m s (done ((s.setViewState v .withdrawn).releaseForce v) p)
  | pendSwap (hrun : s.output.opState = .run) (r : Result × List Byte) :
    Effect m s ⟨s.setOverlay { s.overlay with swapPending := true }, some r⟩
  | swap (p : List Byte) : Effect m s (done (s.setOverlay s.overlay.swapped) p)
  | enable (c : Camera) (hoff : (s.channel c).state = .off) (p : List Byte) : Effect m s (done (s.enableCamera c) p)
  | disable (c : Camera) (p : List Byte) : Effect m s (done (s.disableCamera c) p)
  | restartCamera (c : Camera) (hoff : (s.channel c).state ≠ .off) (p : List Byte) : Effect m s (done (s.restartCamera c) p)
  | force (v : ViewNo) (hvalid : (s.view v).state = .valid) (p : List Byte) :
    Effect m s (done (s.setSelector { s.selector with forced := some v }) p)
  | release (p : List Byte) : Effect m s (done (s.setSelector { s.selector with forced := none }) p)
  | takeEvents (l : Latches) (p : List Byte) : Effect m s (done (s.setMgmt { s.mgmt with latches := l }) p)
  | formatZero (hconfig : s.output.opState = .config) (p : List Byte) : Effect m s (done (s.stopLines.lockIn 0) p)
  | attempt (f : FormatNo) (hconfig : s.output.opState = .config) (hf : f ≠ 0) :
    Effect m s ⟨(s.stopLines.beginAttempt .format f).setMgmt
      { (s.stopLines.beginAttempt .format f).mgmt with executor := .attempt m }, none⟩
  | run (hconfig : s.output.opState = .config) (hclock : s.output.clock = .locked)
    (hview : (s.view s.selector.defaultView).state = .valid)
    (hgrid : ∀ v, (s.view v).state = .valid → (s.view v).fitsGrid s.output.format = true) (p : List Byte) :
    Effect m s (done ((s.setOutput { s.output with opState := .run }).zeroCounters) p)
  | restart (hrow : requestRow m = .restart) : Effect m s ⟨s.softRestart, none⟩

section
variable (m : Message) (s : State)

theorem effect_refuse (r : Result) : Effect m s (refuse s r) := .same r []

theorem effect_done_same (p : List Byte) : Effect m s (done s p) := .same .ok p

/-! ## Reads (R174, R175) -/

theorem effect_readIndexed (n : Nat) [NeZero n] (f : Fin n → List Byte) : Effect m s (readIndexed n m s f) := by
  unfold readIndexed
  split
  · exact effect_refuse m s _
  · exact effect_done_same m s _

theorem effect_readTileRecord : Effect m s (readTileRecord m s) := by
  unfold readTileRecord
  split
  · exact effect_refuse m s _
  · exact effect_readIndexed m s _ _

theorem effect_readSprite : Effect m s (readSprite m s) := by
  unfold readSprite
  dsimp only
  split
  · exact effect_done_same m s _
  · exact effect_refuse m s _

theorem effect_readCounters : Effect m s (readCounters m s) := by
  unfold readCounters
  split
  · exact effect_done_same m s _
  · split
    · exact effect_done_same m s _
    · exact effect_refuse m s _

/-! ## Writes (R3, R79, R80, R118, R120, R126, R138, R154) -/

theorem effect_writeCameraRecord : Effect m s (writeCameraRecord m s) := by
  unfold writeCameraRecord
  split
  · exact effect_refuse m s _
  rename_i c hc
  split
  · exact effect_refuse m s _
  rename_i r hread
  dsimp only
  split_ifs with hoff hheld hconflict
  · exact effect_refuse m s _
  · exact effect_refuse m s _
  · exact effect_refuse m s _
  · refine .cameraRecord c r hread (not_not.mp hoff) (fun k hk d f o h => hheld ?_) (fun k hk d hd h => hconflict ?_) _
    · exact (Pool.anyHeld_iff _ _).mpr ⟨k, hk, d, f, o, h⟩
    · exact (State.slotConflict_iff _ _ _).mpr ⟨k, hk, d, hd, h⟩

theorem effect_writeViewHeader : Effect m s (writeViewHeader m s) := by
  unfold writeViewHeader
  split
  · exact effect_refuse m s _
  rename_i v hv
  split
  · exact effect_refuse m s _
  rename_i h hread
  split_ifs with hstate
  · exact effect_refuse m s _
  · exact .viewHeader v h hread (not_not.mp hstate) _

theorem effect_writeTile : Effect m s (writeTile m s) := by
  unfold writeTile
  split
  · rename_i v i hv hi
    split
    · exact effect_refuse m s _
    rename_i r hread
    split_ifs with hstate
    · exact effect_refuse m s _
    · exact .tile v i r hread (not_not.mp hstate) _
  · exact effect_refuse m s _

theorem effect_storeInBank {f : Bank → Bank} (hwrite : Bank.Write m f) (which : BankId) (p : List Byte) :
    Effect m s (storeInBank s which f p) := by
  unfold storeInBank
  split_ifs
  · exact effect_refuse m s _
  · exact .bank which f hwrite p

theorem effect_writeElement : Effect m s (writeElement m s) := by
  unfold writeElement
  split
  · exact effect_refuse m s _
  · split
    · exact effect_refuse m s _
    · exact effect_storeInBank m s (.element _ _ ‹_›) _ _

theorem effect_writePalette : Effect m s (writePalette m s) := by
  unfold writePalette
  split
  · exact effect_refuse m s _
  · exact effect_storeInBank m s (.palette _) _ _

theorem effect_writeSprite : Effect m s (writeSprite m s) := by
  unfold writeSprite
  split_ifs with harea
  · exact effect_storeInBank m s (.sprite harea) _ _
  · exact effect_refuse m s _

theorem effect_writeBand : Effect m s (writeBand m s) := by
  unfold writeBand
  split
  · exact effect_refuse m s _
  · split
    · exact effect_refuse m s _
    · exact effect_storeInBank m s (.band _ _ ‹_›) _ _

theorem effect_writeRule : Effect m s (writeRule m s) := by
  unfold writeRule
  split
  · exact effect_refuse m s _
  · split
    · exact effect_refuse m s _
    · exact .rule _ _ ‹_› _

theorem effect_writeSettings : Effect m s (writeSettings m s) := by
  unfold writeSettings
  split
  · exact effect_refuse m s _
  rename_i v hv
  split_ifs with hbad
  · exact effect_refuse m s _
  · refine .settings v _ ?_ (fun hrun => ?_) _
    · rw [clampNat_zero]
      exact min_le_left ..
    · by_contra hstate
      exact hbad ⟨s.isRun_iff.mpr hrun, (s.viewValid_eq_false_iff v).mpr hstate⟩

theorem effect_writeZoneRecord : Effect m s (writeZoneRecord m s) := by
  unfold writeZoneRecord
  split
  · exact effect_refuse m s _
  · split
    · exact effect_refuse m s _
    · exact .zoneRecord _ _ ‹_› _

/-! ## Views and the force (R77, R78, R81, R83, R84, R127) -/

theorem effect_withView {f : ViewNo → Answer} (h : ∀ v, Effect m s (f v)) : Effect m s (withView m s f) := by
  unfold withView
  split
  · exact effect_refuse m s _
  · exact h _

theorem effect_openFresh : Effect m s (openFreshEffect m s) := by
  refine effect_withView m s fun v => ?_
  split
  · exact effect_refuse m s _
  split
  case h_1 hstate => exact .openFresh v (.inl hstate) (fun h => absurd (hstate.symm.trans h) (by decide)) _
  case h_2 => exact effect_refuse m s _
  case h_3 =>
    split_ifs with hbad
    · exact effect_refuse m s _
    · rw [Bool.or_eq_true, State.inUse, decide_eq_true_iff, State.protectedDefault_iff, not_or] at hbad
      exact .openFresh v (.inr hbad.1) (fun _ => hbad.2) _
  case h_4 hstate =>
    split_ifs with huse
    · exact effect_refuse m s _
    · rw [State.inUse, decide_eq_true_iff] at huse
      exact .openFresh v (.inr huse) (fun h => absurd (hstate.symm.trans h) (by decide)) _

theorem effect_openEdit : Effect m s (openEditEffect m s) := by
  refine effect_withView m s fun v => ?_
  split
  case h_1 hstate =>
    split_ifs with huse
    · exact effect_refuse m s _
    · rw [State.inUse, decide_eq_true_iff] at huse
      exact .openEdit v hstate huse _
  case h_2 => exact effect_refuse m s _

/-- Past the grid test of R81 and R84, the view fits in RUN. -/
theorem State.fits_of_grid_test {s : State} {x : View} (h : ¬ (s.isRun = true ∧ x.fitsGrid s.output.format = false)) :
    s.output.opState = .run → x.fitsGrid s.output.format = true := by
  intro hrun
  by_contra hmisfit
  exact h ⟨s.isRun_iff.mpr hrun, Bool.not_eq_true _ ▸ hmisfit⟩

theorem effect_close : Effect m s (closeEffect m s) := by
  refine effect_withView m s fun v => ?_
  dsimp only
  split_ifs with hstate hpart hgrid
  · exact effect_refuse m s _
  · exact .same _ _
  · exact effect_refuse m s _
  · exact .validate v (.inl (not_not.mp hstate)) (State.fits_of_grid_test hgrid) _

theorem effect_withdraw : Effect m s (withdrawEffect m s) := by
  refine effect_withView m s fun v => ?_
  split_ifs with hbad
  · exact effect_refuse m s _
  · rw [not_or, not_not, State.protectedDefault_iff] at hbad
    exact .withdraw v hbad.1 hbad.2 _

theorem effect_restore : Effect m s (restoreEffect m s) := by
  refine effect_withView m s fun v => ?_
  split_ifs with hstate hgrid
  · exact effect_refuse m s _
  · exact effect_refuse m s _
  · exact .validate v (.inr (not_not.mp hstate)) (State.fits_of_grid_test hgrid) _

theorem effect_force : Effect m s (forceEffect m s) := by
  unfold forceEffect
  split
  · exact effect_refuse m s _
  rename_i v hv
  split_ifs with hvalid
  · exact .force v (of_decide_eq_true hvalid) _
  · exact effect_refuse m s _

/-! ## The other requests (R24 to R26, R56, R66, R141, R180) -/

theorem effect_swap : Effect m s (swapEffect m s) := by
  unfold swapEffect
  split_ifs with hrun hpending
  · exact effect_refuse m s _
  · exact .pendSwap (s.isRun_iff.mp hrun) _
  · exact .swap _

theorem effect_withCamera {f : Camera → Answer} (h : ∀ c, Effect m s (f c)) : Effect m s (withCamera m s f) := by
  unfold withCamera
  split
  · exact effect_refuse m s _
  · exact h _

theorem effect_enable : Effect m s (enableEffect m s) := by
  refine effect_withCamera m s fun c => ?_
  split_ifs with haction hoff
  · exact effect_refuse m s _
  · exact .enable c hoff _
  · exact effect_refuse m s _

theorem effect_restartCamera : Effect m s (restartCameraEffect m s) := by
  refine effect_withCamera m s fun c => ?_
  split_ifs with hoff
  · exact effect_refuse m s _
  · exact .restartCamera c hoff _

theorem effect_eventTake : Effect m s (eventTakeEffect m s) := by
  unfold eventTakeEffect
  split_ifs
  · exact .takeEvents _ _
  · exact effect_refuse m s _

/-- The operating state is CONFIG where it is not RUN (R65). -/
theorem State.config_of_not_isRun {s : State} (h : ¬ s.isRun = true) : s.output.opState = .config := by
  rw [State.isRun_iff] at h
  cases hop : s.output.opState with
  | config => rfl
  | run => exact absurd hop h

theorem effect_format : Effect m s (formatEffect m s) := by
  unfold formatEffect
  split
  · exact effect_refuse m s _
  rename_i f hf
  dsimp only
  split_ifs with hrun hzero hsame hzero
  · exact effect_done_same m s _
  · exact effect_refuse m s _
  · exact effect_done_same m s _
  · exact .formatZero (State.config_of_not_isRun hrun) _
  · exact .attempt f (State.config_of_not_isRun hrun) hzero

theorem effect_run : Effect m s (runEffect m s) := by
  unfold runEffect
  split_ifs with hrun hclock hview hgrid
  · exact effect_refuse m s _
  · exact effect_refuse m s _
  · exact effect_refuse m s _
  · exact effect_refuse m s _
  · refine .run (State.config_of_not_isRun hrun) (not_not.mp hclock) ?_ (s.gridsFit_iff.mp (by simpa using hgrid)) _
    exact not_not.mp ((s.viewValid_eq_false_iff _).not.mp hview)

end

/-- Every row's execution of its own request answers one of the effects. -/
theorem effect_of_row (row : RequestRow) (m : Message) (s : State) (hrow : requestRow m = row) : Effect m s (row.effect m s) := by
  cases row with
  | undefinedRequest => exact effect_refuse m s _
  | statusRead => exact effect_done_same m s _
  | tableWriteCameraRecord => exact effect_writeCameraRecord m s
  | tableWriteViewHeader => exact effect_writeViewHeader m s
  | tableWriteTile => exact effect_writeTile m s
  | tableWriteOverlayElement => exact effect_writeElement m s
  | tableWritePaletteEntry => exact effect_writePalette m s
  | tableWriteSpriteChunk => exact effect_writeSprite m s
  | tableWritePathBand => exact effect_writeBand m s
  | tableWriteRule => exact effect_writeRule m s
  | tableWriteSelectionSettings => exact effect_writeSettings m s
  | tableWriteZoneRecord => exact effect_writeZoneRecord m s
  | tableWriteSignalTimeouts => exact .timeouts _
  | tableWriteCounters => exact effect_refuse m s _
  | tableReadCameraRecord => exact effect_readIndexed m s _ _
  | tableReadViewHeader => exact effect_readIndexed m s _ _
  | tableReadTile => exact effect_readTileRecord m s
  | tableReadOverlayElement => exact effect_readIndexed m s _ _
  | tableReadPaletteEntry => exact effect_readIndexed m s _ _
  | tableReadSpriteChunk => exact effect_readSprite m s
  | tableReadPathBand => exact effect_readIndexed m s _ _
  | tableReadRule => exact effect_readIndexed m s _ _
  | tableReadSelectionSettings => exact effect_done_same m s _
  | tableReadZoneRecord => exact effect_readIndexed m s _ _
  | tableReadSignalTimeouts => exact effect_done_same m s _
  | tableReadCounters => exact effect_readCounters m s
  | viewOpenFresh => exact effect_openFresh m s
  | viewOpenEdit => exact effect_openEdit m s
  | viewClose => exact effect_close m s
  | viewWithdraw => exact effect_withdraw m s
  | viewRestore => exact effect_restore m s
  | overlaySwap => exact effect_swap m s
  | cameraEnable => exact effect_enable m s
  | cameraDisable => exact effect_withCamera m s fun c => .disable c _
  | cameraRestart => exact effect_restartCamera m s
  | viewForce => exact effect_force m s
  | viewForceRelease => exact .release _
  | eventTake => exact effect_eventTake m s
  | format => exact effect_format m s
  | run => exact effect_run m s
  | restart => exact .restart hrow

end Sys2Proof.Machine
end

section
/-!
PROOFS. What an event of one camera does, said once: every mark, link change, timer and camera control is a chain of small steps on the
pool and the camera's channel (chapters 1 and 2).
-/
namespace Sys2Proof.Machine

/-! ## An update of the pool, one channel and the latches -/

/-- The state with the pool and one channel replaced and some causes raised: the shape of every event of one camera. -/
def State.cameraUpdate (s : State) (c : Camera) (x : Pool × Channel) (ks : List Latch) : State :=
  ((s.setPool x.1).setChannel c x.2).raiseLatches ks

section
variable (s : State) (c : Camera) (x y : Pool × Channel) (ks js : List Latch)

@[simp] theorem State.cameraUpdate_pool : (s.cameraUpdate c x ks).pool = x.1 := rfl

@[simp] theorem State.cameraUpdate_partTime : (s.cameraUpdate c x ks).partTime = s.partTime := rfl

@[simp] theorem State.cameraUpdate_channel : (s.cameraUpdate c x ks).channel c = x.2 :=
  PerCamera.get_set_same _ c x.2

theorem State.cameraUpdate_channel_other {d : Camera} (h : d ≠ c) : (s.cameraUpdate c x ks).channel d = s.channel d :=
  PerCamera.get_set_other _ x.2 h

@[simp] theorem State.cameraUpdate_cameraUpdate :
    (s.cameraUpdate c x ks).cameraUpdate c y js = s.cameraUpdate c y (ks ++ js) := by
  simp only [State.cameraUpdate, State.raiseLatches, setLatches_append]
  simp only [State.setChannel, State.setPool, State.setMgmt, PerCamera.set_set]

theorem State.cameraUpdate_self : s.cameraUpdate c (s.pool, s.channel c) [] = s := by
  rw [State.cameraUpdate, State.raiseLatches_nil]
  simp only [State.setChannel, State.setPool, State.channel, PerCamera.set_get]

theorem State.latched_cameraUpdate (k : Latch) : (s.cameraUpdate c x ks).latched k = s.cameraUpdate c x (ks ++ [k]) := by
  rw [State.cameraUpdate, State.cameraUpdate, ← State.raiseLatches_singleton]
  simp only [State.raiseLatches, setLatches_append]
  rfl

end

theorem State.takeOpen_eq (s : State) (c : Camera) :
    s.takeOpen c = s.cameraUpdate c (s.pool, { ((s.channel c).cadenceStep c s.partTime).1 with lossTimer := some s.partTime })
      ((s.channel c).cadenceStep c s.partTime).2 := rfl

/-! ## The two checks keep a channel in service (R14 to R19) -/

theorem Channel.ingests_iff (ch : Channel) :
    ch.ingests = true ↔ ch.state = .acquiring ∨ ch.state = .live ∨ ch.state = .degraded := by
  unfold Channel.ingests
  cases ch.state <;> simp

theorem Channel.inUse_iff (ch : Channel) : ch.inUse = true ↔ ch.state = .live ∨ ch.state = .degraded := by
  simp [Channel.inUse]

/-- A channel whose states differ at most within LIVE and DEGRADED serves marks as before. -/
theorem Channel.ingests_withReasons (ch : Channel) (r : Reasons) : (ch.withReasons r).ingests = ch.ingests := by
  unfold Channel.withReasons
  split
  · rename_i h
    have hin : ch.ingests = true := (Channel.ingests_iff ch).mpr (.inr ((Channel.inUse_iff ch).mp h))
    rw [hin]
    unfold Channel.ingests
    split_ifs <;> rfl
  · rfl

theorem Channel.ingests_cadenceLoss (c : Camera) (ch : Channel) (m : Option CadenceClass) :
    (ch.cadenceLoss c m).1.ingests = ch.ingests := by
  unfold Channel.cadenceLoss
  split
  · split_ifs
    · rfl
    · rfl
    · exact Channel.ingests_withReasons _ _
  · rfl

theorem Channel.ingests_cadenceAdoption (c : Camera) (ch : Channel) : (ch.cadenceAdoption c).1.ingests = ch.ingests := by
  unfold Channel.cadenceAdoption
  split
  · split_ifs
    · dsimp only
      split
      · exact ((Channel.ingests_iff ch).mpr (.inl ‹ch.state = .acquiring›)).symm
      · exact Channel.ingests_withReasons _ _
      · rfl
    · rfl
  · rfl

/-- The cadence step moves a channel only within the states that ingest. -/
theorem Channel.ingests_cadenceStep (c : Camera) (t : PartTime) (ch : Channel) : (ch.cadenceStep c t).1.ingests = ch.ingests := by
  unfold Channel.cadenceStep
  dsimp only
  rw [Channel.ingests_cadenceAdoption, Channel.ingests_cadenceLoss]
  rfl

/-- The freeze check moves a channel only within the states that ingest. -/
theorem Channel.ingests_freezeCheck (c : Camera) (ch : Channel) (signature : BitVec 16) :
    (ch.freezeCheck c signature).1.ingests = ch.ingests := by
  unfold Channel.freezeCheck
  dsimp only
  split_ifs
  · rfl
  · exact Channel.ingests_withReasons _ _
  · exact Channel.ingests_withReasons _ _
  · rfl

/-! ## The small steps -/

/-- The channel after a FRAME_OPEN's cadence step, its loss timer started anew (R14, R20). -/
def Channel.opened (ch : Channel) (c : Camera) (t : PartTime) : Channel := { (ch.cadenceStep c t).1 with lossTimer := some t }

/-- A LOST channel woken by a FRAME_OPEN, before its cadence step (R22). -/
def Channel.woken (ch : Channel) : Channel := { ch with state := .acquiring, freeze := .cleared }

/-- A channel that has left service for a state (R23). -/
def Channel.left (ch : Channel) (dest : ChannelState) : Channel :=
  { ch with
    state := dest
    reasons := .none
    filling := none
    lossTimer := none
    cadence := if dest = .lost then .cleared else ch.cadence }

/-- A channel restarted by CAMERA_CONTROL (R25). -/
def Channel.reacquired (ch : Channel) (t : PartTime) : Channel := { (ch.left .acquiring).acquire t with counters := .zero }

/-- One small step of an event of camera `c` at part time `t`, on the pool and the camera's channel. Where `agree` holds, a frame
starts only where none is filling. -/
inductive IngestStep (agree : Prop) (c : Camera) (t : PartTime) : Pool × Channel → Pool × Channel → Prop
  | count {p : Pool} {ch : Channel} (n : Counters) : IngestStep agree c t (p, ch) (p, { ch with counters := n })
  | start {p : Pool} {ch : Channel} (hin : ch.ingests = true) : IngestStep agree c t (p, ch) (p, ch.opened c t)
  | wake {p : Pool} {ch : Channel} (hlost : ch.state = .lost) : IngestStep agree c t (p, ch) (p, ch.woken.opened c t)
  | fill {p : Pool} {ch : Channel} (k : SlotNo) (number : BitVec 16) (hin : ch.ingests = true) (hempty : agree → ch.filling = none)
    (hlist : k ∈ ch.record.slotList) (hfree : p.slot k = .free) :
    IngestStep agree c t (p, ch) (p.setSlot k (.filling c), { ch with filling := some (.start k number) })
  | overwrite {p : Pool} {ch : Channel} (k : SlotNo) (rest : List SlotNo) (number : BitVec 16) (hin : ch.ingests = true)
    (hempty : agree → ch.filling = none) (hready : p.ready.get c = k :: rest) :
    IngestStep agree c t (p, ch) ((p.setSlot k (.filling c)).setReady c rest, { ch with filling := some (.start k number) })
  | skip {p : Pool} {ch : Channel} (n : Counters) (hempty : agree → ch.filling = none) :
    IngestStep agree c t (p, ch) (p, { ch with counters := n, filling := none })
  | refill {p : Pool} {ch : Channel} (f : FillingFrame) (number : BitVec 16) (hin : ch.ingests = true) (hfill : ch.filling = some f) :
    IngestStep agree c t (p, ch) (p, { ch with filling := some (.start f.slot number) })
  | line {p : Pool} {ch : Channel} (f : FillingFrame) (n : Nat) (px : List Pixel) (good : Bool) (hin : ch.ingests = true)
    (hfill : ch.filling = some f) :
    IngestStep agree c t (p, ch) ((lineMark ch.record n px good (p, f)).1, { ch with filling := some (lineMark ch.record n px good (p, f)).2 })
  | complete {p : Pool} {ch : Channel} (f : FillingFrame) (flags : FlagSet) (hin : ch.ingests = true) (hfill : ch.filling = some f) :
    IngestStep agree c t (p, ch) (p.complete f.slot (f.completedRecord c ch t flags),
      ((ch.afterCompletion (f.completedRecord c ch t flags)).freezeCheck c f.signature).1)
  | discard {p : Pool} {ch : Channel} (f : FillingFrame) (hin : ch.ingests = true) (hfill : ch.filling = some f) :
    IngestStep agree c t (p, ch) (p.setSlot f.slot .free, { ch.countDiscard with filling := none })
  | halt {p : Pool} {ch : Channel} (f : FillingFrame) (hin : ch.ingests = true) (hfill : ch.filling = some f) :
    IngestStep agree c t (p, ch) ((p.setSlot f.slot .free).leave c, ch.left .halted)
  | leave {p : Pool} {ch : Channel} (dest : ChannelState) (hdest : dest = .lost ∨ dest = .off) :
    IngestStep agree c t (p, ch) (p.leave c, ch.left dest)
  | enable {p : Pool} {ch : Channel} (hoff : ch.state = .off) : IngestStep agree c t (p, ch) (p, ch.acquire t)
  | reacquire {p : Pool} {ch : Channel} : IngestStep agree c t (p, ch) (p.leave c, ch.reacquired t)

/-- A chain of small steps. -/
abbrev Ingest (agree : Prop) (c : Camera) (t : PartTime) : Pool × Channel → Pool × Channel → Prop := Relation.ReflTransGen (IngestStep agree c t)

/-- A state is another after an event of camera `c`: part time apart, the pool and the channel have made a chain of small steps, and
some causes are raised. -/
def State.Ingested (s : State) (agree : Prop) (c : Camera) (s' : State) : Prop :=
  ∃ x ks, Ingest agree c s.partTime (s.pool, s.channel c) x ∧ s' = s.cameraUpdate c x ks

section
variable {s : State} {agree : Prop} {c : Camera}

theorem State.Ingested.refl (s : State) (c : Camera) : s.Ingested agree c s := ⟨_, _, .refl, (s.cameraUpdate_self c).symm⟩

theorem State.Ingested.trans {s1 s2 : State} (h : s.Ingested agree c s1) (h' : s1.Ingested agree c s2) : s.Ingested agree c s2 := by
  obtain ⟨x, ks, hx, rfl⟩ := h
  obtain ⟨y, js, hy, rfl⟩ := h'
  simp only [State.cameraUpdate_partTime, State.cameraUpdate_pool, State.cameraUpdate_channel] at hy
  exact ⟨y, ks ++ js, hx.trans hy, s.cameraUpdate_cameraUpdate c x y ks js⟩

theorem State.ingested_of_step {x : Pool × Channel} (ks : List Latch) (h : IngestStep agree c s.partTime (s.pool, s.channel c) x) :
    s.Ingested agree c (s.cameraUpdate c x ks) := ⟨x, ks, .single h, rfl⟩

end

/-! ## Every event is a chain of small steps -/

section
variable {agree : Prop} (s : State) (c : Camera)

theorem State.ingested_takeOpen (hin : (s.channel c).ingests = true) : s.Ingested agree c (s.takeOpen c) :=
  State.ingested_of_step _ (.start hin)

theorem State.takeOpen_ingests (hin : (s.channel c).ingests = true) : ((s.takeOpen c).channel c).ingests = true := by
  rw [State.takeOpen_eq, State.cameraUpdate_channel]
  exact (Channel.ingests_cadenceStep c s.partTime (s.channel c)).trans hin

theorem State.takeOpen_filling : ((s.takeOpen c).channel c).filling = (s.channel c).filling := by
  rw [State.takeOpen_eq, State.cameraUpdate_channel]
  obtain ⟨_, _, _, h⟩ := Channel.cadenceStep_frame c s.partTime (s.channel c)
  rw [h]

theorem State.ingested_startFrame (number : BitVec 16) (hin : (s.channel c).ingests = true)
    (hempty : agree → (s.channel c).filling = none) : s.Ingested agree c (s.startFrame c number) := by
  rcases s.startFrame_cases c number with ⟨k, hk, hfree, -, he⟩ | ⟨-, ⟨k, rest, hready, he⟩ | ⟨-, he⟩⟩
  · rw [he]
    exact State.ingested_of_step [] (.fill k number hin hempty hk hfree)
  · rw [he]
    refine ⟨_, [], (Relation.ReflTransGen.single (.overwrite k rest number hin hempty hready)).tail (.count _), rfl⟩
  · rw [he]
    exact State.ingested_of_step [.camSkipped c] (.skip _ hempty)

theorem State.ingested_completeFrame (f : FillingFrame) (flags : FlagSet) (hin : (s.channel c).ingests = true)
    (hfill : (s.channel c).filling = some f) : s.Ingested agree c (s.completeFrame c f flags) :=
  State.ingested_of_step _ (.complete f flags hin hfill)

theorem State.completeFrame_ingests (f : FillingFrame) (flags : FlagSet) (hin : (s.channel c).ingests = true) :
    ((s.completeFrame c f flags).channel c).ingests = true := by
  rw [State.completeFrame_eq, State.raiseLatches_channel, State.channel_setChannel_same, Channel.ingests_freezeCheck]
  exact hin

theorem State.completeFrame_filling (f : FillingFrame) (flags : FlagSet) : ((s.completeFrame c f flags).channel c).filling = none := by
  rw [State.completeFrame_eq, State.raiseLatches_channel, State.channel_setChannel_same]
  exact (Channel.freezeCheck_afterCompletion c (s.channel c) _ f.signature).2.1

theorem State.ingested_haltFrame (f : FillingFrame) (hin : (s.channel c).ingests = true) (hfill : (s.channel c).filling = some f) :
    s.Ingested agree c (s.haltFrame c f) :=
  State.ingested_of_step [.camHalted c] (.halt f hin hfill)

theorem State.ingested_discardFrame (f : FillingFrame) (hin : (s.channel c).ingests = true)
    (hfill : (s.channel c).filling = some f) : s.Ingested agree c (s.discardFrame c f) :=
  State.ingested_of_step [] (.discard f hin hfill)

theorem State.ingested_leaveService (dest : ChannelState) (hdest : dest = .lost ∨ dest = .off) :
    s.Ingested agree c (s.leaveService c dest) :=
  State.ingested_of_step [] (.leave dest hdest)

theorem State.ingested_gapOpen (f : FillingFrame) (number : BitVec 16) (hin : (s.channel c).ingests = true)
    (hfill : (s.channel c).filling = some f) : s.Ingested agree c (s.gapOpen c f number) := by
  unfold State.gapOpen
  dsimp only
  split
  case h_1 => exact s.ingested_haltFrame c f hin hfill
  case h_2 =>
    have hin1 := s.completeFrame_ingests c f (f.flagsAtGap (s.channel c).record.height) hin
    refine (s.ingested_completeFrame c f _ hin hfill).trans ((State.ingested_takeOpen _ c hin1).trans ?_)
    refine State.ingested_startFrame _ c number (State.takeOpen_ingests _ c hin1) fun _ => ?_
    rw [State.takeOpen_filling, State.completeFrame_filling]
  case h_3 =>
    have hcounted : s.Ingested agree c (s.setChannel c (s.channel c).countDiscard) := State.ingested_of_step [] (.count _)
    have hin1 : ((s.setChannel c (s.channel c).countDiscard).channel c).ingests = true := by
      rw [State.channel_setChannel_same]
      exact hin
    refine hcounted.trans ((State.ingested_takeOpen _ c hin1).trans ?_)
    refine State.ingested_of_step [] (.refill f number (State.takeOpen_ingests _ c hin1) ?_)
    rw [State.takeOpen_filling, State.channel_setChannel_same]
    exact hfill

theorem State.ingested_wakeOpen (number : BitVec 16) (hlost : (s.channel c).state = .lost)
    (hempty : agree → (s.channel c).filling = none) : s.Ingested agree c (s.wakeOpen c number) := by
  have hchannel : (s.setChannel c (s.channel c).woken).channel c = (s.channel c).woken := s.channel_setChannel_same c _
  have hwoken : (s.setChannel c (s.channel c).woken).takeOpen c =
      s.cameraUpdate c (s.pool, (s.channel c).woken.opened c s.partTime) ((s.channel c).woken.cadenceStep c s.partTime).2 := by
    rw [State.takeOpen_eq, hchannel]
    exact s.cameraUpdate_cameraUpdate c (s.pool, _) _ [] _
  have hin : (((s.setChannel c (s.channel c).woken).takeOpen c).channel c).ingests = true := by
    refine State.takeOpen_ingests _ c ?_
    rw [hchannel]
    rfl
  have hfill : agree → (((s.setChannel c (s.channel c).woken).takeOpen c).channel c).filling = none := by
    rw [State.takeOpen_filling, hchannel]
    exact hempty
  refine State.Ingested.trans ?_ (State.ingested_startFrame _ c number hin hfill)
  exact hwoken ▸ State.ingested_of_step _ (.wake hlost)

/-- FRAME_OPEN is a chain of small steps, where a LOST channel has no filling frame. -/
theorem State.ingested_frameOpen (number : BitVec 16) (hlost : agree → (s.channel c).state = .lost → (s.channel c).filling = none) :
    s.Ingested agree c (s.frameOpen c number) := by
  unfold State.frameOpen
  dsimp only
  split_ifs with hin hstate
  · split
    · exact s.ingested_gapOpen c _ number hin ‹_›
    · rename_i hempty
      refine (s.ingested_takeOpen c hin).trans (State.ingested_startFrame _ c number (s.takeOpen_ingests c hin) fun _ => ?_)
      rw [State.takeOpen_filling, hempty]
  · exact s.ingested_wakeOpen c number hstate fun h => hlost h hstate
  · exact .refl s c

theorem State.ingested_line (n : BitVec 16) (samples : LineSamples) (good : Bool) : s.Ingested agree c (s.line c n samples good) := by
  unfold State.line
  dsimp only
  split
  · rename_i f hin hfill
    exact State.ingested_of_step [] (.line f n.toNat (pixelsOf samples) good hin hfill)
  · exact .refl s c

theorem State.ingested_frameClose (claimed : BitVec 16) : s.Ingested agree c (s.frameClose c claimed) := by
  unfold State.frameClose
  dsimp only
  split
  · rename_i f hin hfill
    split
    · exact s.ingested_haltFrame c f hin hfill
    · exact s.ingested_completeFrame c f _ hin hfill
    · exact s.ingested_discardFrame c f hin hfill
  · exact .refl s c

theorem State.ingested_loseCamera : s.Ingested agree c (s.loseCamera c) :=
  State.ingested_of_step [.camLost c] (.leave .lost (.inl rfl))

theorem State.ingested_linkDown : s.Ingested agree c (s.linkDown c) := by
  unfold State.linkDown
  split_ifs
  · exact s.ingested_loseCamera c
  · exact .refl s c

theorem State.ingested_lossExpiry : s.Ingested agree c (s.lossExpiry c) := by
  unfold State.lossExpiry
  split_ifs
  · exact s.ingested_loseCamera c
  · exact .refl s c

theorem State.ingested_enableCamera (hoff : (s.channel c).state = .off) : s.Ingested agree c (s.enableCamera c) :=
  State.ingested_of_step [] (.enable hoff)

theorem State.ingested_disableCamera : s.Ingested agree c (s.disableCamera c) := by
  unfold State.disableCamera
  split_ifs
  · exact .refl s c
  · exact s.ingested_leaveService c .off (.inr rfl)

theorem State.restartCamera_eq :
    s.restartCamera c = s.cameraUpdate c (s.pool.leave c, (s.channel c).reacquired s.partTime) [] := by
  unfold State.restartCamera State.leaveService
  dsimp only
  rw [State.channel_setChannel_same, State.setChannel_setChannel]
  rfl

theorem State.ingested_restartCamera : s.Ingested agree c (s.restartCamera c) := by
  rw [s.restartCamera_eq c]
  exact State.ingested_of_step [] .reacquire

end

/-! ## What a chain leaves alone -/

section
variable {agree : Prop} {c : Camera} {t : PartTime} {x y : Pool × Channel}

theorem Channel.opened_record (ch : Channel) : (ch.opened c t).record = ch.record := by
  obtain ⟨_, _, _, h⟩ := Channel.cadenceStep_frame c t ch
  rw [Channel.opened, h]

/-- Writing a line changes pixels of the pool alone. -/
theorem fillLine_pool (width n : Nat) (px : List Pixel) (x : Pool × FillingFrame) :
    (fillLine width n px x).1 = { x.1 with pixels := (fillLine width n px x).1.pixels } := rfl

theorem fillMissing_pool (width count n : Nat) (x : Pool × FillingFrame) :
    (fillMissing width count n x).1 = { x.1 with pixels := (fillMissing width count n x).1.pixels } := by
  induction count generalizing n x with
  | zero => rfl
  | succ count ih =>
    rw [fillMissing, ih, fillLine_pool]

/-- A LINE mark changes pixels of the pool alone. -/
theorem lineMark_pool (r : CameraRecord) (n : Nat) (px : List Pixel) (good : Bool) (x : Pool × FillingFrame) :
    (lineMark r n px good x).1 = { x.1 with pixels := (lineMark r n px good x).1.pixels } := by
  unfold lineMark takeLine
  dsimp only
  split_ifs
  · rfl
  · rfl
  · rw [fillLine_pool, fillMissing_pool]
  · rw [fillLine_pool, fillMissing_pool]

/-- A small step keeps the camera record, the other cameras' ready lists and the camera snapshot. -/
theorem IngestStep.frame (h : IngestStep agree c t x y) :
    y.2.record = x.2.record ∧ (∀ d, d ≠ c → y.1.ready.get d = x.1.ready.get d) ∧ y.1.snapshot = x.1.snapshot := by
  cases h with
  | start => exact ⟨Channel.opened_record _, fun _ _ => rfl, rfl⟩
  | wake => exact ⟨Channel.opened_record _, fun _ _ => rfl, rfl⟩
  | overwrite k rest number => exact ⟨rfl, fun _ hd => Pool.ready_setReady_other _ _ hd, rfl⟩
  | line f n px good => rw [lineMark_pool]; exact ⟨rfl, fun _ _ => rfl, rfl⟩
  | complete f flags hin hfill =>
    exact ⟨(Channel.freezeCheck_afterCompletion c _ _ _).1, fun _ hd => Pool.ready_complete_other _ _ hd, rfl⟩
  | halt f => exact ⟨rfl, (Pool.left_leave _ c).lists, rfl⟩
  | leave dest => exact ⟨rfl, (Pool.left_leave _ c).lists, rfl⟩
  | reacquire => exact ⟨rfl, (Pool.left_leave _ c).lists, rfl⟩
  | count => exact ⟨rfl, fun _ _ => rfl, rfl⟩
  | skip => exact ⟨rfl, fun _ _ => rfl, rfl⟩
  | fill => exact ⟨rfl, fun _ _ => rfl, rfl⟩
  | refill => exact ⟨rfl, fun _ _ => rfl, rfl⟩
  | discard => exact ⟨rfl, fun _ _ => rfl, rfl⟩
  | enable => exact ⟨rfl, fun _ _ => rfl, rfl⟩

theorem Ingest.frame (h : Ingest agree c t x y) :
    y.2.record = x.2.record ∧ (∀ d, d ≠ c → y.1.ready.get d = x.1.ready.get d) ∧ y.1.snapshot = x.1.snapshot := by
  induction h with
  | refl => exact ⟨rfl, fun _ _ => rfl, rfl⟩
  | tail _ hstep ih =>
    obtain ⟨hrecord, hready, hsnapshot⟩ := ih
    obtain ⟨hrecord', hready', hsnapshot'⟩ := hstep.frame
    exact ⟨hrecord'.trans hrecord, fun d hd => (hready' d hd).trans (hready d hd), hsnapshot'.trans hsnapshot⟩

end

/-- An event of one camera changes nothing but what `State.OnlyCamera` allows. -/
theorem State.Ingested.onlyCamera {s s' : State} {agree : Prop} {c : Camera} {t : PartTime} (h : (s.atTime t).Ingested agree c s') : s.OnlyCamera c s' := by
  obtain ⟨x, ks, hx, rfl⟩ := h
  obtain ⟨hrecord, hready, hsnapshot⟩ := hx.frame
  exact State.onlyCamera_of_update t ks hrecord hready hsnapshot

theorem State.Ingested.partTime {s s' : State} {agree : Prop} {c : Camera} (h : s.Ingested agree c s') : s'.partTime = s.partTime := by
  obtain ⟨x, ks, -, rfl⟩ := h
  rfl

/-- What a request's camera control leaves of everything but the camera: the state has no part time of its own to set. -/
theorem State.Ingested.onlyCamera_self {s s' : State} {agree : Prop} {c : Camera} (h : s.Ingested agree c s') : s.OnlyCamera c s' :=
  State.Ingested.onlyCamera (t := s.partTime) h

end Sys2Proof.Machine
end

section
/-!
PROOFS. What the shared operations of output timing change, said once, and the bounds of the queues (chapters 3 and 9).
-/
namespace Sys2Proof.Machine

/-! ## The lines sent, the composition abandoned, the executor's end (R52, R55, R57 to R59) -/

section
variable (s : State)

/-- Sending lines changes the port and the overlay-budget flag alone. -/
theorem State.sendTo_eq (n : Nat) :
    ∃ port budget, s.sendTo n = (s.setPort port).setOverlay { s.overlay with budget := budget } := ⟨_, _, rfl⟩

/-- Stopping the lines changes the port and the overlay-budget flag alone. -/
theorem State.stopLines_eq : ∃ port budget, s.stopLines = (s.setPort port).setOverlay { s.overlay with budget := budget } := by
  unfold State.stopLines
  split_ifs
  · exact s.sendTo_eq _
  · exact ⟨s.port, s.overlay.budget, rfl⟩

theorem State.composing_iff : s.composing = true ↔ ∃ v p m r, s.compositor = .composing v p m r := by
  unfold State.composing State.scene
  cases s.compositor <;> simp

theorem State.not_composing_iff : s.composing = false ↔ s.compositor = .idle := by
  unfold State.composing State.scene
  cases s.compositor <;> simp

theorem State.scene_of_idle {s : State} (h : s.compositor = .idle) : s.scene = none := by
  rw [State.scene, h]

theorem State.scene_of_composing {s : State} {v : ViewNo} {p : Nat × Nat} {m : List TileMean} {r : List Nat}
    (h : s.compositor = .composing v p m r) : s.scene = some ⟨(s.view v).header, (s.view v).tiles, s.pool⟩ := by
  rw [State.scene, h]

/-- An abandon settles the slots, discards the draw list and leaves the compositor IDLE; without a composition it does nothing. -/
theorem State.abandon_cases :
    s.composing = true ∧
      s.abandon = ((s.setPool s.pool.settle).setOverlay { s.overlay with drawList := [] }).setCompositor .idle ∨
    s.composing = false ∧ s.abandon = s := by
  unfold State.abandon
  cases h : s.composing with
  | true => exact .inl ⟨rfl, rfl⟩
  | false => exact .inr ⟨rfl, rfl⟩

/-- The end of a FORMAT attempt makes the executor IDLE and queues its reply; without an attempt it does nothing. -/
theorem State.endFormat_cases (r : Result) :
    (∃ m, s.mgmt.executor = .attempt m ∧ s.endFormat r = (s.setMgmt { s.mgmt with executor := .idle }).pushReply m r []) ∨
    s.mgmt.executor = .idle ∧ s.endFormat r = s := by
  unfold State.endFormat
  cases s.mgmt.executor with
  | attempt m => exact .inl ⟨m, rfl, rfl⟩
  | idle => exact .inr ⟨rfl, rfl⟩

theorem State.attempting_iff (kind : AttemptKind) : s.attempting kind = true ↔ ∃ f t, s.output.clock = .settling kind f t := by
  unfold State.attempting
  cases s.output.clock with
  | locked => simp
  | settling k f t => simp

theorem State.lockExpired_iff (kind : AttemptKind) :
    s.lockExpired kind = true ↔ ∃ f t, s.output.clock = .settling kind f t ∧ 20000 ≤ elapsed s.partTime t := by
  unfold State.lockExpired
  cases s.output.clock with
  | locked => simp
  | settling k f t => simp

/-! ## An output frame start and a frame done (R51, R53) -/

/-- One camera's hold changes the pool and the camera's counters alone. -/
theorem State.holdCamera_eq (c : Camera) :
    ∃ p n, s.holdCamera c = (s.setPool p).setChannel c { s.channel c with counters := n } := by
  unfold State.holdCamera
  dsimp only
  split
  · refine ⟨{ s.pool with snapshot := s.pool.snapshot.set c none }, (s.channel c).counters, ?_⟩
    exact (congrArg (fun x => { s with
      channels := x, pool := { s.pool with snapshot := s.pool.snapshot.set c none } }) (s.channels.set_get c)).symm
  · exact ⟨_, _, rfl⟩

/-- The state with a pool, and with each camera's counters replaced. -/
def State.withCounters (p : Pool) (n : Camera → Counters) : State :=
  { s with pool := p, channels := .build fun c => { s.channel c with counters := n c } }

end

theorem PerCamera.ext_get {α : Type} {p q : PerCamera α} (h : ∀ c, p.get c = q.get c) : p = q := by
  cases p
  cases q
  simp only [PerCamera.mk.injEq]
  exact ⟨h 0, h 1, h 2, h 3⟩

section
variable (s : State)

@[simp] theorem State.withCounters_channel (p : Pool) (n : Camera → Counters) (c : Camera) :
    (s.withCounters p n).channel c = { s.channel c with counters := n c } := PerCamera.get_build _ c

theorem State.withCounters_self : s.withCounters s.pool (fun c => (s.channel c).counters) = s := by
  have hchannels : (PerCamera.build fun c => s.channel c) = s.channels :=
    PerCamera.ext_get fun c => PerCamera.get_build _ c
  rw [State.withCounters, hchannels]

theorem State.holdCamera_withCounters (p : Pool) (n : Camera → Counters) (c : Camera) :
    ∃ q m, (s.withCounters p n).holdCamera c = s.withCounters q m := by
  obtain ⟨q, x, h⟩ := (s.withCounters p n).holdCamera_eq c
  refine ⟨q, fun d => if d = c then x else n d, ?_⟩
  have hchannels : (s.withCounters p n).channels.set c { (s.withCounters p n).channel c with counters := x } =
      .build fun d => { s.channel d with counters := if d = c then x else n d } := by
    refine PerCamera.ext_get fun d => ?_
    by_cases hd : d = c
    · subst hd
      simp
    · rw [PerCamera.get_set_other _ _ hd, PerCamera.get_build, if_neg hd]
      exact s.withCounters_channel p n d
  rw [h]
  exact congrArg (fun x => { s with pool := q, channels := x }) hchannels

/-- The hold changes the pool and the counters alone. -/
theorem State.holdAll_eq : ∃ n, s.holdAll = s.withCounters s.holdAll.pool n := by
  suffices h : ∀ (l : List Camera) (p : Pool) (n : Camera → Counters),
      ∃ q m, l.foldl State.holdCamera (s.withCounters p n) = s.withCounters q m by
    obtain ⟨q, m, hq⟩ := h allCameras s.pool fun c => (s.channel c).counters
    rw [State.withCounters_self] at hq
    refine ⟨m, ?_⟩
    rw [State.holdAll, hq]
    rfl
  intro l
  induction l with
  | nil => exact fun p n => ⟨p, n, rfl⟩
  | cons c l ih =>
    intro p n
    obtain ⟨q, m, h⟩ := s.holdCamera_withCounters p n c
    rw [List.foldl_cons, h]
    exact ih q m

/-- The signal snapshot that a start in RUN fixes (R116, R117). -/
def State.startSnapshot : SignalSnapshot := (s.selector.signals.aged s.partTime s.selector.timeouts).snapshot

/-- The selector of a start in RUN with the current view fixed, and whether a rule was skipped (R122, R123). -/
def State.choice : Selector × Bool :=
  Selector.choose
    { s.selector with
      signals := s.selector.signals.aged s.partTime s.selector.timeouts
      snapshot := some s.startSnapshot }
    s.partTime s.viewValid s.startSnapshot

/-- Fixing the current view changes the current view and the pending candidate alone. -/
theorem Selector.choose_frame (x : Selector) (now : PartTime) (valid : ViewNo → Bool) (snap : SignalSnapshot) :
    ∃ current candidate, (x.choose now valid snap).1 = { x with current := current, candidate := candidate } := by
  unfold Selector.choose
  split
  · exact ⟨_, _, rfl⟩
  · unfold Selector.chooseFrom
    dsimp only
    split
    · exact ⟨_, _, rfl⟩
    split_ifs
    · exact ⟨_, _, rfl⟩
    · exact ⟨_, none, rfl⟩
    · exact ⟨_, _, rfl⟩
    · unfold Selector.dwellTest
      dsimp only
      split_ifs
      · exact ⟨_, _, rfl⟩
      · exact ⟨_, _, rfl⟩

/-- The zone monitor at a start in RUN (R164). -/
def State.armed : ZoneMonitor :=
  s.monitor.mapZones fun x => x.atStart s.choice.1.current (decide (s.choice.1.current ≠ s.selector.current))

/-- The causes a start in RUN latches (R122, R125, R156). -/
def State.startCauses : List Latch :=
  (latchIf s.choice.2 .ruleSkipped ++ latchIf (decide (s.choice.1.current ≠ s.selector.current)) .viewSwitched) ++
    allZones.flatMap fun z => fallLatch z (s.monitor.zone z).state (s.armed.zone z).state

/-- The overlay engine at a start in RUN, with a pending swap carried out (R143). -/
def State.swappedIn : Overlay := if s.overlay.swapPending then s.overlay.swapped else s.overlay

/-- What the draw list of a start in RUN is fixed from (R145, R146). -/
def State.startInputs : DrawInputs where
  view := s.choice.1.current
  zoneMarked := fun z => (s.monitor.zone z).state.marked
  usable := fun c => (s.holdAll.pool.snapshot.get c).isSome
  signals := s.startSnapshot
  frameCounter := s.output.frameCounter

/-- The compositor that begins through a view in use (R92). -/
def State.begun : Option ViewNo → Compositor
  | none => .idle
  | some v => .begin v (s.view v).header

theorem State.composeAtStart_eq : s.composeAtStart = s.setCompositor (s.begun s.selector.current) := by
  unfold State.composeAtStart State.begun
  cases s.selector.current <;> rfl

theorem State.choice_signals : s.choice.1.signals = s.selector.signals.aged s.partTime s.selector.timeouts := by
  obtain ⟨_, _, h⟩ := Selector.choose_frame { s.selector with
    signals := s.selector.signals.aged s.partTime s.selector.timeouts
    snapshot := some s.startSnapshot } s.partTime s.viewValid s.startSnapshot
  rw [State.choice, h]

/-- Everything a start in RUN changes: the pool and the counters by the hold, the selector, the overlay engine, the zones, the
compositor and the latches. -/
theorem State.runStart_eq : ∃ n, s.holdAll = s.withCounters s.holdAll.pool n ∧
    s.runStart = { s.withCounters s.holdAll.pool n with
      selector := s.choice.1
      overlay := { s.swappedIn with drawList := drawListOf s.startInputs s.swappedIn.activeBank, budget := false }
      monitor := s.armed
      compositor := s.begun s.choice.1.current
      mgmt := { s.mgmt with latches := setLatches s.mgmt.latches s.startCauses } } := by
  obtain ⟨n, hheld⟩ := s.holdAll_eq
  refine ⟨n, hheld, ?_⟩
  unfold State.runStart State.startCauses State.startInputs
  dsimp only
  rw [State.composeAtStart_eq, setLatches_append]
  generalize hp : s.holdAll.pool = p at hheld ⊢
  have hsignals : (s.withCounters p n).selectAtRunStart.selector.signals.snapshot = s.startSnapshot :=
    congrArg SignalTable.snapshot s.choice_signals
  rw [hheld, hsignals]
  rfl

theorem State.startDue_iff :
    s.startDue = true ↔ s.output.clock = .locked ∧ (s.output.phase = .none ∨
      s.output.phase = .blanked ∧ startInterval s.output.format s.output.groupPos ≤ elapsed s.partTime s.output.startedAt) := by
  unfold State.startDue
  cases s.output.phase <;> simp

theorem State.doneDue_iff :
    s.doneDue = true ↔ s.output.phase = .active ∧ doneAfter s.output.format ≤ elapsed s.partTime s.output.startedAt := by
  simp [State.doneDue]

/-- Everything an output frame start can be: nothing before its time, else the work of RUN or of CONFIG (R51). -/
theorem State.frameStart_cases :
    s.startDue = false ∧ s.frameStart = s ∨
    s.startDue = true ∧ s.output.opState = .run ∧ s.frameStart = s.openFrame.runStart ∨
    s.startDue = true ∧ s.output.opState = .config ∧ s.frameStart = s.openFrame.configStart := by
  unfold State.frameStart State.isRun
  cases s.startDue with
  | false => exact .inl ⟨rfl, rfl⟩
  | true =>
    cases s.output.opState with
    | run => exact .inr (.inl ⟨rfl, rfl, rfl⟩)
    | config => exact .inr (.inr ⟨rfl, rfl, rfl⟩)

/-- The results a composed frame hands to the zones (R94, R158). -/
def Scene.results (sc : Scene) : TileResults := ⟨meansTable sc, sc.header.columns, sc.header.rows⟩

/-- The causes a detection step latches (R162, R163). -/
def State.detectCauses (x : TileResults) : List Latch :=
  allZones.flatMap fun z => stepLatches z (s.monitor.zone z).state ((s.monitor.detect x s.partTime).zone z).state

/-- The state after the frame done of a frame composed from a scene, its lines and its overlay-budget flag apart (R53). -/
def State.finished (sc : Scene) : State :=
  { s with
    pool := s.pool.settle
    compositor := .idle
    monitor := s.monitor.detect sc.results s.partTime
    output := { s.output with phase := .done }
    mgmt := { s.mgmt with latches := setLatches s.mgmt.latches (s.detectCauses sc.results) } }

theorem State.finished_eq {s : State} {sc : Scene} (h : s.scene = some sc) :
    s.finishComposition.setOutput { s.finishComposition.output with phase := .done } = s.finished sc := by
  rw [State.finishComposition, h]
  unfold State.finished State.detect State.detectCauses Scene.results
  dsimp only [State.setPool, State.setCompositor, State.setOutput, State.raiseLatches, State.setMonitor, State.setMgmt]

/-- Everything a frame done can be: nothing before its time, the lines alone where nothing is composed, else the end of the
composition (R53). -/
theorem State.frameDone_cases :
    s.doneDue = false ∧ s.frameDone = s ∨
    s.doneDue = true ∧ s.compositor = .idle ∧
      s.frameDone = (s.sendTo (activeHeight s.output.format)).setOutput { s.output with phase := .done } ∨
    s.doneDue = true ∧ ∃ v p m r, s.compositor = .composing v p m r ∧
      s.frameDone = (s.sendTo (activeHeight s.output.format)).finished ⟨(s.view v).header, (s.view v).tiles, s.pool⟩ := by
  unfold State.frameDone
  cases s.doneDue with
  | false => exact .inl ⟨rfl, rfl⟩
  | true =>
    refine .inr ?_
    cases hc : s.compositor with
    | idle =>
      have hscene := State.scene_of_idle (s := s.sendTo (activeHeight s.output.format)) hc
      refine .inl ⟨rfl, rfl, ?_⟩
      rw [if_pos rfl, State.finishComposition, hscene]
      rfl
    | composing v p m r =>
      have hscene := State.scene_of_composing (s := s.sendTo (activeHeight s.output.format)) hc
      exact .inr ⟨rfl, v, p, m, r, rfl, (if_pos rfl).trans (State.finished_eq hscene)⟩

/-- The fall to CONFIG, field by field (R63). -/
theorem State.fallToConfig_eq : s.fallToConfig =
    { s with
      monitor := s.monitor.fallen
      selector := s.selector.fallen
      overlay := s.swappedIn
      output := { s.output with opState := .config }
      mgmt := (s.raiseLatches (allZones.flatMap fun z => fallLatch z (s.monitor.zone z).state .disarmed)).mgmt } := rfl

end

/-! ## The queues keep their bounds (R60, R169, R170) -/

/-- Two management interfaces with the same queues and executor. -/
structure Management.SameQueues (x y : Management) : Prop where
  requests : y.requests = x.requests
  replies : y.replies = x.replies
  executor : y.executor = x.executor

theorem Management.SameQueues.of_latches {x y : Management} (h : { y with latches := x.latches } = x) : x.SameQueues y :=
  ⟨(congrArg Management.requests h :), (congrArg Management.replies h :), (congrArg Management.executor h :)⟩

theorem State.QueuesBounded.of_same {s s' : State} (h : s.QueuesBounded) (same : s.mgmt.SameQueues s'.mgmt) : s'.QueuesBounded := by
  obtain ⟨hrequests, hreplies, hexecutor⟩ := same
  refine ⟨hrequests ▸ h.requests, hreplies ▸ h.replies, fun m hm => ?_⟩
  rw [hreplies]
  exact h.attempt m (hexecutor ▸ hm)

theorem State.Ingested.queues {s s' : State} {agree : Prop} {c : Camera} {t : PartTime} (hs : s.QueuesBounded)
    (h : (s.atTime t).Ingested agree c s') : s'.QueuesBounded :=
  hs.of_same (.of_latches h.onlyCamera.mgmt)

theorem State.QueuesBounded.endFormat {s : State} (h : s.QueuesBounded) (r : Result) : (s.endFormat r).QueuesBounded := by
  rcases s.endFormat_cases r with ⟨m, hexec, he⟩ | ⟨-, he⟩
  · rw [he]
    refine ⟨h.requests, ?_, fun n hn => nomatch hn⟩
    simpa using Nat.lt_succ_of_le (h.attempt m hexec)
  · rwa [he]

/-- A request's effect keeps the queues, but for the start of an attempt and the soft restart. -/
theorem Effect.queues {m : Message} {s : State} {a : Answer} (h : Effect m s a) :
    s.mgmt.SameQueues a.state.mgmt ∨
      a.reply = none ∧ a.state.mgmt.requests = s.mgmt.requests ∧ a.state.mgmt.replies = s.mgmt.replies ∨
      a.state.mgmt = .initial ∧ a.reply = none := by
  have released : ∀ (x : State) v, x.mgmt.SameQueues (x.releaseForce v).mgmt := fun x v => by
    unfold State.releaseForce
    split_ifs <;> exact ⟨rfl, rfl, rfl⟩
  have stopped : s.stopLines.mgmt = s.mgmt := by
    obtain ⟨_, _, h⟩ := s.stopLines_eq
    rw [h]
    rfl
  cases h with
  | attempt f => exact .inr (.inl ⟨rfl, (congrArg Management.requests stopped :), (congrArg Management.replies stopped :)⟩)
  | restart => exact .inr (.inr ⟨rfl, rfl⟩)
  | openFresh v => exact .inl (released (s.setView v _) v)
  | withdraw v => exact .inl (released (s.setViewState v .withdrawn) v)
  | enable c hoff => exact .inl (.of_latches (s.ingested_enableCamera (agree := True) c hoff).onlyCamera_self.mgmt)
  | disable c => exact .inl (.of_latches (s.ingested_disableCamera (agree := True) c).onlyCamera_self.mgmt)
  | restartCamera c => exact .inl (.of_latches (s.ingested_restartCamera (agree := True) c).onlyCamera_self.mgmt)
  | formatZero =>
    exact .inl ⟨(congrArg Management.requests stopped :), (congrArg Management.replies stopped :),
      (congrArg Management.executor stopped :)⟩
  | same | cameraRecord | viewHeader | tile | bank | rule | settings | timeouts | zoneRecord | openEdit | validate | pendSwap | swap
  | force | release | takeEvents | run => exact .inl ⟨rfl, rfl, rfl⟩

theorem State.openFrame_mgmt (s : State) : s.openFrame.mgmt = s.mgmt := rfl

theorem State.stopLines_mgmt (s : State) : s.stopLines.mgmt = s.mgmt := by
  obtain ⟨_, _, h⟩ := s.stopLines_eq
  rw [h]
  rfl

/-- An abandon changes the pool, the draw list and the compositor alone. -/
theorem State.abandon_eq (s : State) :
    ∃ p list c, s.abandon = ((s.setPool p).setOverlay { s.overlay with drawList := list }).setCompositor c := by
  rcases s.abandon_cases with ⟨-, h⟩ | ⟨-, h⟩
  · exact ⟨_, _, _, h⟩
  · exact ⟨s.pool, s.overlay.drawList, s.compositor, h⟩

theorem State.abandon_mgmt (s : State) : s.abandon.mgmt = s.mgmt := by
  obtain ⟨p, list, c, h⟩ := s.abandon_eq
  rw [h]
  rfl

/-- The clock's events that end no FORMAT attempt, the zones' timer and the output frame keep the queues, the blanking apart. -/
theorem State.sameQueues_unlock (s : State) : s.mgmt.SameQueues s.unlock.mgmt := by
  unfold State.unlock
  split_ifs
  · have h : s.stopLines.abandon.mgmt = s.mgmt := (State.abandon_mgmt _).trans s.stopLines_mgmt
    exact ⟨(congrArg Management.requests h :), (congrArg Management.replies h :), (congrArg Management.executor h :)⟩
  · exact ⟨rfl, rfl, rfl⟩

theorem State.sameQueues_expireRelock (s : State) : s.mgmt.SameQueues s.expireRelock.mgmt := by
  unfold State.expireRelock
  split_ifs <;> exact ⟨rfl, rfl, rfl⟩

theorem State.sameQueues_frameStart (s : State) : s.mgmt.SameQueues s.frameStart.mgmt := by
  rcases s.frameStart_cases with ⟨-, h⟩ | ⟨-, -, h⟩ | ⟨-, -, h⟩
  · rw [h]
    exact ⟨rfl, rfl, rfl⟩
  · obtain ⟨n, -, hrun⟩ := s.openFrame.runStart_eq
    rw [h, hrun]
    exact ⟨rfl, rfl, rfl⟩
  · rw [h]
    exact ⟨rfl, rfl, rfl⟩

theorem State.sameQueues_frameDone (s : State) : s.mgmt.SameQueues s.frameDone.mgmt := by
  rcases s.frameDone_cases with ⟨-, h⟩ | ⟨-, -, h⟩ | ⟨-, v, p, m, r, -, h⟩ <;> rw [h] <;> exact ⟨rfl, rfl, rfl⟩

theorem State.QueuesBounded.blanking {s : State} (h : s.QueuesBounded) : s.blanking.QueuesBounded := by
  unfold State.blanking
  split_ifs
  · have hdrop : (s.mgmt.replies.drop 8).length ≤ s.mgmt.replies.length := List.length_drop ▸ Nat.sub_le _ _
    exact ⟨h.requests, hdrop.trans h.replies, fun m hm => hdrop.trans (h.attempt m hm)⟩
  · exact h

theorem State.QueuesBounded.receive {s : State} (h : s.QueuesBounded) (m : Message) : (s.receive m).QueuesBounded := by
  unfold State.receive
  split_ifs
  · refine h.of_same ?_
    unfold State.signalMessage
    split <;> exact ⟨rfl, rfl, rfl⟩
  · unfold State.offerRequest
    split_ifs with hroom
    · refine ⟨?_, h.replies, h.attempt⟩
      simpa using hroom
    · exact h.of_same ⟨rfl, rfl, rfl⟩

/-- A request taken and answered keeps the bounds: the reply has its room, kept for the reply of an attempt until it comes. -/
theorem State.QueuesBounded.settle {s : State} {t : PartTime} {m : Message} {rest : List Message} {a : Answer} (h : s.QueuesBounded)
    (head : s.mgmt.requests = m :: rest) (idle : s.mgmt.executor = .idle) (ha : Effect m (s.taken t rest) a)
    (room : s.mgmt.replies.length < 16 ∨ a.state.mgmt = .initial) : (a.settle m).QueuesBounded := by
  have hrest : rest.length ≤ 16 := by
    have := h.requests
    rw [head, List.length_cons] at this
    omega
  obtain ⟨x, r⟩ := a
  rcases ha.queues with ⟨hrequests, hreplies, hexecutor⟩ | ⟨hr, hrequests, hreplies⟩ | ⟨hinit, hr⟩
  · change x.mgmt.requests = rest at hrequests
    change x.mgmt.replies = s.mgmt.replies at hreplies
    change x.mgmt.executor = s.mgmt.executor at hexecutor
    have hidle : ∀ n, x.mgmt.executor ≠ .attempt n := fun n hn => nomatch idle.symm.trans (hexecutor.symm.trans hn)
    cases r with
    | none => exact ⟨hrequests ▸ hrest, hreplies ▸ h.replies, fun n hn => absurd hn (hidle n)⟩
    | some r =>
      refine ⟨(hrequests ▸ hrest :), ?_, fun n hn => absurd hn (hidle n)⟩
      change (x.mgmt.replies ++ [_]).length ≤ 16
      rw [List.length_append, List.length_singleton]
      rcases room with room | hinit
      · rw [hreplies]
        omega
      · change x.mgmt = _ at hinit
        rw [hinit]
        decide
  · change x.mgmt.requests = rest at hrequests
    change x.mgmt.replies = s.mgmt.replies at hreplies
    change r = none at hr
    subst hr
    refine ⟨hrequests ▸ hrest, hreplies ▸ h.replies, fun n hn => ?_⟩
    change x.mgmt.replies.length ≤ 15
    rcases room with room | hinit
    · rw [hreplies]
      omega
    · change x.mgmt = _ at hinit
      rw [hinit]
      decide
  · change x.mgmt = _ at hinit
    change r = none at hr
    subst hr
    show State.QueuesBounded x
    refine ⟨?_, ?_, ?_⟩ <;> rw [hinit]
    · decide
    · decide
    · exact fun n hn => nomatch hn

theorem Follows.queues {s s' : State} (hs : s.QueuesBounded) (h : Follows s s') : s'.QueuesBounded := by
  have timed (t : PartTime) : (s.atTime t).QueuesBounded := ⟨hs.requests, hs.replies, hs.attempt⟩
  cases h with
  | powerOn => exact ⟨Nat.zero_le _, Nat.zero_le _, fun m h => nomatch h⟩
  | time t => exact timed t
  | frameOpen t c number => exact ((s.atTime t).ingested_frameOpen (agree := False) c number False.elim).queues hs
  | line t c n samples good => exact ((s.atTime t).ingested_line (agree := True) c n samples good).queues hs
  | frameClose t c claimed => exact ((s.atTime t).ingested_frameClose (agree := True) c claimed).queues hs
  | linkDown t c => exact ((s.atTime t).ingested_linkDown (agree := True) c).queues hs
  | lossExpiry t c => exact ((s.atTime t).ingested_lossExpiry (agree := True) c).queues hs
  | lockFormat t =>
    unfold State.lockFormat
    split_ifs
    · exact State.QueuesBounded.endFormat (s := (s.atTime t).lockIn _) ⟨hs.requests, hs.replies, hs.attempt⟩ .ok
    · exact timed t
  | lockRelock t =>
    unfold State.lockRelock
    split_ifs
    · exact ⟨hs.requests, hs.replies, hs.attempt⟩
    · exact timed t
  | expireFormat t =>
    unfold State.expireFormat
    split_ifs
    · exact State.QueuesBounded.endFormat (s := ((s.atTime t).lockIn 0).raiseLatch .lockFail)
        ⟨hs.requests, hs.replies, hs.attempt⟩ .lockFail
    · exact timed t
  | expireRelock t => exact (timed t).of_same (s.atTime t).sameQueues_expireRelock
  | unlock t => exact (timed t).of_same (s.atTime t).sameQueues_unlock
  | holdExpiry t z =>
    unfold State.holdExpiry
    dsimp only
    split_ifs
    · exact ⟨hs.requests, hs.replies, hs.attempt⟩
    · exact timed t
  | frameStart t => exact (timed t).of_same (s.atTime t).sameQueues_frameStart
  | frameDone t => exact (timed t).of_same (s.atTime t).sameQueues_frameDone
  | blanking t => exact (timed t).blanking
  | receive t m => exact (timed t).receive m
  | malformed t m rest head idle room =>
    exact hs.settle (t := t) head idle (.same .malformed []) (.inl room)
  | executed row t m rest head idle hrow room =>
    refine hs.settle head idle (effect_of_row row m (s.taken t rest) hrow) (room.imp_right fun h => ?_)
    rw [h]
    rfl

/-- Settles O58: every state that follows keeps the bounds. -/
theorem stepKeepsTheQueuesBounded : Obligations.StepKeepsTheQueuesBounded := fun _ _ =>
  step_keeps (P := State.QueuesBounded) (fun _ _ h => ⟨h.requests, h.replies, h.attempt⟩) (fun _ _ => Follows.queues)

end Sys2Proof.Machine
end

section
/-!
PROOFS. Every step keeps each channel's state, reasons, timer, frame and tracker in agreement (R14, R15, R18, R19, R20, R23).
-/
namespace Sys2Proof.Machine

/-! ## The state, the reason set and the adopted class (R15, R16, R17, R19) -/

/-- The part of `Channel.Agrees` that the cadence step and the freeze check act on. -/
structure Channel.Consistent (ch : Channel) : Prop where
  reasons : ch.reasons ≠ .none ↔ ch.state = .degraded
  acquiring : ch.state = .acquiring → ch.cadence.adopted = none
  service : ch.inUse = true → (ch.cadence.adopted = none ↔ ch.reasons.cadence = true)

theorem Channel.Agrees.consistent {ch : Channel} (h : ch.Agrees) : ch.Consistent := ⟨h.reasons, h.acquiring, h.service⟩

/-- A channel in service agrees with itself where it is consistent and its loss timer runs. -/
theorem Channel.Consistent.agrees {ch : Channel} (h : ch.Consistent) (hin : ch.ingests = true) (htimer : ch.lossTimer.isSome = true) :
    ch.Agrees where
  reasons := h.reasons
  timer := htimer.trans hin.symm
  filling _ := hin
  lost hl := by
    rw [Channel.ingests, hl] at hin
    cases hin
  acquiring := h.acquiring
  service := h.service

theorem Channel.not_inUse_of_acquiring {ch : Channel} (h : ch.state = .acquiring) : ch.inUse = false := by
  rw [Channel.inUse, h]
  rfl

theorem Channel.Consistent.withReasons {ch : Channel} {r : Reasons} (hout : ch.inUse = false → ch.Consistent)
    (hin : ch.inUse = true → (ch.cadence.adopted = none ↔ r.cadence = true)) : (ch.withReasons r).Consistent := by
  unfold Channel.withReasons
  split_ifs with huse hr
  · exact ⟨iff_of_false (not_not_intro hr) nofun, nofun, fun _ => hin huse⟩
  · exact ⟨iff_of_true hr rfl, nofun, fun _ => hin huse⟩
  · exact hout (by simpa using huse)

theorem Channel.Consistent.cadenceLoss {ch : Channel} (h : ch.Consistent) (c : Camera) (m : Option CadenceClass) :
    (ch.cadenceLoss c m).1.Consistent := by
  unfold Channel.cadenceLoss
  split
  · split_ifs
    · exact ⟨h.reasons, h.acquiring, h.service⟩
    · exact ⟨h.reasons, h.acquiring, h.service⟩
    · refine .withReasons (fun hout => ⟨h.reasons, fun _ => rfl, fun hin => ?_⟩) fun _ => iff_of_true rfl rfl
      exact absurd (hin.symm.trans hout) (by decide)
  · exact h

/-- Where no class is adopted, a channel in use is DEGRADED with CADENCE among its reasons. -/
theorem Channel.Consistent.degraded_of_none {ch : Channel} (h : ch.Consistent) (hin : ch.inUse = true)
    (hnone : ch.cadence.adopted = none) : ch.state = .degraded ∧ ch.reasons.cadence = true := by
  have hcadence := (h.service hin).mp hnone
  refine ⟨h.reasons.mp fun hr => ?_, hcadence⟩
  rw [hr] at hcadence
  cases hcadence

theorem Channel.Consistent.cadenceAdoption {ch : Channel} (h : ch.Consistent) (c : Camera) : (ch.cadenceAdoption c).1.Consistent := by
  unfold Channel.cadenceAdoption
  split
  case h_1 cls hnone _ =>
    split_ifs
    case pos =>
      dsimp only
      split
      case h_1 hstate =>
        have hreasons : ch.reasons = .none := by
          by_contra hr
          cases hstate.symm.trans (h.reasons.mp hr)
        refine ⟨iff_of_false (not_not_intro hreasons) nofun, nofun, fun _ => ?_⟩
        exact iff_of_false nofun (by rw [hreasons]; decide)
      case h_2 => exact .withReasons (fun hout => by simp_all [Channel.inUse]) fun _ => iff_of_false nofun nofun
      case h_3 hacquiring hdegraded =>
        refine ⟨h.reasons, fun e => absurd e hacquiring, fun hin => ?_⟩
        obtain ⟨hstate, hcadence⟩ := h.degraded_of_none hin hnone
        exact absurd hcadence (hdegraded hstate)
    case neg => exact h
  case h_2 => exact h

theorem Channel.Consistent.cadenceStep {ch : Channel} (h : ch.Consistent) (c : Camera) (t : PartTime) :
    (ch.cadenceStep c t).1.Consistent := by
  have hadopted : (ch.cadence.step t).adopted = ch.cadence.adopted := by
    unfold CadenceTracker.step
    split <;> rfl
  have hstepped : ({ ch with cadence := ch.cadence.step t } : Channel).Consistent :=
    ⟨h.reasons, fun e => hadopted.trans (h.acquiring e), fun e => hadopted ▸ h.service e⟩
  exact (hstepped.cadenceLoss c _).cadenceAdoption c

theorem Channel.Consistent.freezeCheck {ch : Channel} (h : ch.Consistent) (c : Camera) (signature : BitVec 16) :
    (ch.freezeCheck c signature).1.Consistent := by
  unfold Channel.freezeCheck
  dsimp only
  have hstepped : ({ ch with freeze := ch.freeze.step signature } : Channel).Consistent := ⟨h.reasons, h.acquiring, h.service⟩
  split_ifs
  · exact h
  · exact .withReasons (fun _ => hstepped) h.service
  · exact .withReasons (fun _ => hstepped) h.service
  · exact hstepped

/-! ## The small steps of a camera's event -/

theorem Channel.ingests_opened (ch : Channel) (c : Camera) (t : PartTime) : (ch.opened c t).ingests = ch.ingests :=
  Channel.ingests_cadenceStep c t ch

theorem Channel.Agrees.opened {ch : Channel} (h : ch.Consistent) (hin : ch.ingests = true) (c : Camera) (t : PartTime) :
    (ch.opened c t).Agrees := by
  obtain ⟨hreasons, hacquiring, hservice⟩ := h.cadenceStep c t
  exact Channel.Consistent.agrees ⟨hreasons, hacquiring, hservice⟩ ((ch.ingests_opened c t).trans hin) rfl

/-- A channel out of service after leaving it agrees with itself, whatever the state it went to. -/
theorem Channel.Agrees.left (ch : Channel) {dest : ChannelState} (h : dest = .lost ∨ dest = .off ∨ dest = .halted) :
    (ch.left dest).Agrees := by
  rcases h with rfl | rfl | rfl
  · exact ⟨by simp [Channel.left], rfl, nofun, fun _ => rfl, nofun, nofun⟩
  · exact ⟨by simp [Channel.left], rfl, nofun, nofun, nofun, nofun⟩
  · exact ⟨by simp [Channel.left], rfl, nofun, nofun, nofun, nofun⟩

/-- A channel that enters ACQUIRING with no reason agrees with itself (R24, R25). -/
theorem Channel.Agrees.acquire {ch : Channel} (hreasons : ch.reasons = .none) (t : PartTime) : (ch.acquire t).Agrees :=
  ⟨iff_of_false (not_not_intro hreasons) (by simp [Channel.acquire]), rfl, fun _ => rfl, nofun, fun _ => rfl,
    nofun⟩

/-- A change of filling frame within service, or of counters, keeps the agreement. -/
theorem Channel.Agrees.refilled {ch : Channel} (h : ch.Agrees) (f : Option FillingFrame) (n : Counters)
    (hin : f.isSome = true → ch.ingests = true) : ({ ch with filling := f, counters := n } : Channel).Agrees :=
  ⟨h.reasons, h.timer, hin, h.lost, h.acquiring, h.service⟩

theorem IngestStep.agrees {c : Camera} {t : PartTime} {x y : Pool × Channel} (h : IngestStep True c t x y) (hx : x.2.Agrees) :
    y.2.Agrees := by
  obtain ⟨p, ch⟩ := x
  cases h with
  | count n => exact ⟨hx.reasons, hx.timer, hx.filling, hx.lost, hx.acquiring, hx.service⟩
  | skip n => exact hx.refilled none n nofun
  | start hin => exact .opened hx.consistent hin c t
  | wake hlost =>
    have hcleared := hx.lost hlost
    refine .opened ⟨?_, ?_, ?_⟩ rfl c t
    · exact iff_of_false (fun h => nomatch hlost.symm.trans (hx.reasons.mp h)) nofun
    · intro _
      show CadenceTracker.adopted _ = none
      rw [Channel.woken, hcleared]
      rfl
    · exact nofun
  | fill k number hin => exact hx.refilled _ _ fun _ => hin
  | overwrite k rest number hin => exact hx.refilled _ _ fun _ => hin
  | refill f number hin => exact hx.refilled _ _ fun _ => hin
  | line f n px good hin => exact hx.refilled _ _ fun _ => hin
  | complete f flags hin =>
    have hafter : (ch.afterCompletion (f.completedRecord c ch t flags)).Consistent :=
      ⟨hx.reasons, hx.acquiring, hx.service⟩
    refine (hafter.freezeCheck c f.signature).agrees ((Channel.ingests_freezeCheck c _ _).trans hin) ?_
    obtain ⟨_, _, _, he⟩ := Channel.freezeCheck_frame c (ch.afterCompletion (f.completedRecord c ch t flags)) f.signature
    rw [he]
    exact hx.timer.trans hin
  | discard f => exact hx.refilled none _ nofun
  | halt f => exact .left _ (.inr (.inr rfl))
  | leave dest hdest => exact .left _ (hdest.imp_right .inl)
  | enable hoff =>
    refine .acquire ?_ t
    by_contra hr
    cases hoff.symm.trans (hx.reasons.mp hr)
  | reacquire =>
    have h : ((ch.left .acquiring).acquire t).Agrees := .acquire rfl t
    exact ⟨h.reasons, h.timer, h.filling, h.lost, h.acquiring, h.service⟩

theorem Ingest.agrees {c : Camera} {t : PartTime} {x y : Pool × Channel} (h : Ingest True c t x y) (hx : x.2.Agrees) : y.2.Agrees := by
  induction h with
  | refl => exact hx
  | tail _ hstep ih => exact hstep.agrees ih

/-! ## Every command -/

theorem State.Ingested.channelsAgree {s s' : State} {c : Camera} (h : s.Ingested True c s') (hs : s.ChannelsAgree) :
    s'.ChannelsAgree := by
  obtain ⟨x, ks, hx, rfl⟩ := h
  intro d
  by_cases hd : d = c
  · subst hd
    rw [State.cameraUpdate_channel]
    exact hx.agrees (hs d)
  · rw [State.cameraUpdate_channel_other _ _ _ _ hd]
    exact hs d

/-- A channel that agrees with itself has no filling frame while LOST. -/
theorem Channel.Agrees.filling_of_lost {ch : Channel} (h : ch.Agrees) (hlost : ch.state = .lost) : ch.filling = none := by
  by_contra hne
  have hin := h.filling (Option.isSome_iff_ne_none.mpr hne)
  rw [Channel.ingests, hlost] at hin
  cases hin

theorem State.ChannelsAgree.of_channels {s s' : State} (hs : s.ChannelsAgree) (h : s'.channels = s.channels) : s'.ChannelsAgree :=
  fun c => by
    have hc : s'.channel c = s.channel c := congrArg (fun p => PerCamera.get p c) h
    exact hc ▸ hs c

theorem Channel.agrees_off (ch : Channel) (n : BitVec 16) (k : Counters) (f : FrameRecord) :
    (⟨ch.record, .off, .none, none, .cleared, .cleared, none, n, k, f⟩ : Channel).Agrees :=
  ⟨by simp, rfl, nofun, fun _ => rfl, fun _ => rfl, nofun⟩

theorem State.softRestart_channel (s : State) (c : Camera) : s.softRestart.channel c = (s.channel c).restarted := by
  unfold State.softRestart
  split_ifs with h
  · obtain ⟨_, _, he⟩ := s.stopLines_eq
    rw [he]
    exact PerCamera.get_build _ c
  · exact PerCamera.get_build _ c

theorem State.stopLines_channels (s : State) : s.stopLines.channels = s.channels := by
  obtain ⟨_, _, h⟩ := s.stopLines_eq
  rw [h]
  rfl

theorem State.releaseForce_channels (s : State) (v : ViewNo) : (s.releaseForce v).channels = s.channels := by
  unfold State.releaseForce
  split_ifs <;> rfl

theorem Effect.channelsAgree {m : Message} {s : State} {a : Answer} (h : Effect m s a) (hs : s.ChannelsAgree) :
    a.state.ChannelsAgree := by
  cases h with
  | cameraRecord c r hread hoff =>
    intro d
    by_cases hd : d = c
    · subst hd
      have h := hs d
      exact (s.channel_setChannel_same d _).symm ▸ ⟨h.reasons, h.timer, h.filling, h.lost, h.acquiring, h.service⟩
    · exact (s.channel_setChannel_other _ hd).symm ▸ hs d
  | openFresh v => exact hs.of_channels (State.releaseForce_channels (s.setView v _) v)
  | withdraw v => exact hs.of_channels (State.releaseForce_channels (s.setViewState v .withdrawn) v)
  | enable c hoff => exact (s.ingested_enableCamera c hoff).channelsAgree hs
  | disable c => exact (s.ingested_disableCamera c).channelsAgree hs
  | restartCamera c => exact (s.ingested_restartCamera c).channelsAgree hs
  | formatZero => exact hs.of_channels s.stopLines_channels
  | attempt f => exact hs.of_channels s.stopLines_channels
  | run =>
    intro c
    have h := hs c
    exact (State.zeroCounters_channel _ c).symm ▸ ⟨h.reasons, h.timer, h.filling, h.lost, h.acquiring, h.service⟩
  | restart => exact fun c => (s.softRestart_channel c).symm ▸ Channel.agrees_off _ _ _ _
  | same | viewHeader | tile | bank | rule | settings | timeouts | zoneRecord | openEdit | validate | pendSwap | swap
  | force | release | takeEvents => exact hs

theorem Answer.settle_channels (a : Answer) (m : Message) : (a.settle m).channels = a.state.channels := by
  obtain ⟨s, _ | ⟨r, p⟩⟩ := a <;> rfl

theorem State.runStart_channelsAgree {s : State} (hs : s.ChannelsAgree) : s.runStart.ChannelsAgree := by
  obtain ⟨n, -, h⟩ := s.runStart_eq
  rw [h]
  intro c
  have hc := hs c
  exact (s.withCounters_channel s.holdAll.pool n c).symm ▸
    ⟨hc.reasons, hc.timer, hc.filling, hc.lost, hc.acquiring, hc.service⟩

theorem Follows.channelsAgree {s s' : State} (hs : s.ChannelsAgree) (h : Follows s s') : s'.ChannelsAgree := by
  have camera {t : PartTime} {c : Camera} {x : State} (h : (s.atTime t).Ingested True c x) : x.ChannelsAgree := h.channelsAgree hs
  cases h with
  | powerOn =>
    intro c
    have hc : s.powerOn.channel c = .initial c := PerCamera.get_build Channel.initial c
    exact hc ▸ Channel.agrees_off (.initial c) _ _ _
  | time t => exact hs
  | frameOpen t c number => exact camera ((s.atTime t).ingested_frameOpen c number fun _ => (hs c).filling_of_lost)
  | line t c n samples good => exact camera ((s.atTime t).ingested_line c n samples good)
  | frameClose t c claimed => exact camera ((s.atTime t).ingested_frameClose c claimed)
  | linkDown t c => exact camera ((s.atTime t).ingested_linkDown c)
  | lossExpiry t c => exact camera ((s.atTime t).ingested_lossExpiry c)
  | lockFormat t =>
    unfold State.lockFormat
    split_ifs
    · rcases ((s.atTime t).lockIn (s.atTime t).output.format).endFormat_cases .ok with ⟨m, -, h⟩ | ⟨-, h⟩ <;> rw [h] <;> exact hs
    · exact hs
  | lockRelock t =>
    unfold State.lockRelock
    split_ifs <;> exact hs
  | expireFormat t =>
    unfold State.expireFormat
    split_ifs
    · rcases (((s.atTime t).lockIn 0).raiseLatch .lockFail).endFormat_cases .lockFail with ⟨m, -, h⟩ | ⟨-, h⟩ <;> rw [h] <;> exact hs
    · exact hs
  | expireRelock t =>
    unfold State.expireRelock
    split_ifs <;> exact hs
  | unlock t =>
    unfold State.unlock
    split_ifs
    · refine hs.of_channels ?_
      obtain ⟨p, list, x, h⟩ := (s.atTime t).stopLines.abandon_eq
      rw [h]
      exact (s.atTime t).stopLines_channels
    · exact hs
  | holdExpiry t z =>
    unfold State.holdExpiry
    dsimp only
    split_ifs <;> exact hs
  | frameStart t =>
    rcases (s.atTime t).frameStart_cases with ⟨-, h⟩ | ⟨-, -, h⟩ | ⟨-, -, h⟩ <;> rw [h]
    · exact hs
    · exact State.runStart_channelsAgree (s := (s.atTime t).openFrame) hs
    · exact hs
  | frameDone t =>
    rcases (s.atTime t).frameDone_cases with ⟨-, h⟩ | ⟨-, -, h⟩ | ⟨-, v, p, m, r, -, h⟩ <;> rw [h] <;> exact hs
  | blanking t =>
    unfold State.blanking
    split_ifs <;> exact hs
  | receive t m =>
    unfold State.receive State.signalMessage State.offerRequest
    split_ifs
    · split <;> exact hs
    · exact hs
    · exact hs
  | malformed t m rest => exact hs
  | executed row t m rest head idle hrow =>
    refine State.ChannelsAgree.of_channels ?_ (Answer.settle_channels _ m)
    exact (effect_of_row row m (s.taken t rest) hrow).channelsAgree hs

/-- Settles O55: every state that follows keeps the agreement of each channel. -/
theorem stepKeepsChannelsInAgreement : Obligations.StepKeepsChannelsInAgreement := fun _ _ =>
  step_keeps (P := State.ChannelsAgree) (fun _ _ h => h) (fun _ _ => Follows.channelsAgree)

end Sys2Proof.Machine
end

section
/-!
PROOFS. Every step keeps the operating state, the clock, the views, the zones, the overlay engine and the compositor coherent (R55, R60,
R68, R75, R76, R85, R87, R88, R142, R156).
-/
namespace Sys2Proof.Machine

/-! ## What coherence looks at -/

/-- Two states that agree in everything coherence looks at. -/
structure State.SameRun (s s' : State) : Prop where
  output : s'.output = s.output
  executor : s'.mgmt.executor = s.mgmt.executor
  views : s'.views = s.views
  current : s'.selector.current = s.selector.current
  forced : s'.selector.forced = s.selector.forced
  default : s'.selector.defaultView = s.selector.defaultView
  swap : s'.overlay.swapPending = s.overlay.swapPending
  monitor : s'.monitor = s.monitor
  compositor : s'.compositor = s.compositor

theorem State.view_of_views {s s' : State} (h : s'.views = s.views) (v : ViewNo) : s'.view v = s.view v :=
  congrArg (fun t => Table.read View.initial t v.val) h

theorem State.isRun_of_output {s s' : State} (h : s'.output = s.output) : s'.isRun = s.isRun :=
  congrArg (fun o : OutputUnit => decide (o.opState = .run)) h

theorem State.ClockAgrees.of_same {s s' : State} (h : s.ClockAgrees) (output : s'.output = s.output)
    (executor : s'.mgmt.executor = s.mgmt.executor) : s'.ClockAgrees := by
  refine ⟨?_, ?_, ?_⟩ <;> rw [output]
  · exact h.target
  · exact h.config
  · rw [executor]
    exact h.executor

theorem State.Coherent.of_same {s s' : State} (h : s.Coherent) (same : s.SameRun s') : s'.Coherent := by
  refine ⟨h.clock.of_same same.output same.executor, ?_⟩
  have hview := State.view_of_views same.views
  have hrun := h.run
  constructor
  · simpa only [hview, same.forced] using hrun.forced
  · simpa only [hview, same.output, same.default] using hrun.default
  · simpa only [hview, same.output] using hrun.grids
  · simpa only [hview, same.current] using hrun.inUse
  · simpa only [same.output, same.current] using hrun.config
  · simpa only [same.output, same.swap] using hrun.swap
  · simpa only [same.monitor, same.current, State.isRun_of_output same.output] using hrun.zones
  · simpa only [same.compositor, same.output, same.current] using hrun.composing

theorem State.OnlyCamera.sameRun {s s' : State} {c : Camera} (h : s.OnlyCamera c s') : s.SameRun s' where
  output := h.output
  executor := (congrArg Management.executor h.mgmt :)
  views := h.views
  current := congrArg Selector.current h.selector
  forced := congrArg Selector.forced h.selector
  default := congrArg Selector.defaultView h.selector
  swap := congrArg Overlay.swapPending h.overlay
  monitor := h.monitor
  compositor := h.compositor

/-! ## The operating state and the activity of zones -/

theorem State.isRun_of_config {s : State} (h : s.output.opState = .config) : s.isRun = false := by
  rw [State.isRun, h]
  rfl

/-- No zone is armed in CONFIG (R156). -/
theorem State.Coherent.disarmed {s : State} (h : s.Coherent) (hconfig : s.output.opState = .config) (z : ZoneNo) :
    (s.monitor.zone z).state = .disarmed := by
  by_contra hz
  have hactive := h.run.zones z hz
  rw [State.isRun_of_config hconfig, ZoneRecord.active, Bool.and_false, Bool.false_and] at hactive
  cases hactive

/-- Nothing is composed in CONFIG, nor outside the active period (R91). -/
theorem State.Coherent.idle_of_config {s : State} (h : s.Coherent) (hconfig : s.output.opState = .config) :
    s.compositor = .idle := by
  cases hc : s.compositor with
  | idle => rfl
  | composing v p m r => cases hconfig.symm.trans (h.run.composing v p m r hc).1

theorem State.Coherent.idle_of_phase {s : State} (h : s.Coherent) (hphase : s.output.phase ≠ .active) : s.compositor = .idle := by
  cases hc : s.compositor with
  | idle => rfl
  | composing v p m r => exact absurd (h.run.composing v p m r hc).2.2 hphase

/-- While no FORMAT attempt is in progress the executor is in none (R60). -/
theorem State.Coherent.no_attempt {s : State} (h : s.Coherent) (hclock : ∀ f t, s.output.clock ≠ .settling .format f t) (m : Message) :
    s.mgmt.executor ≠ .attempt m := fun hm => by
  obtain ⟨f, t, hf⟩ := h.clock.executor.mp ⟨m, hm⟩
  exact hclock f t hf

/-- A LOCKED clock with an executor in no attempt agrees (R50, R60). -/
theorem State.ClockAgrees.of_locked {s : State} (hclock : s.output.clock = .locked) (hexec : ∀ m, s.mgmt.executor ≠ .attempt m) :
    s.ClockAgrees := by
  refine ⟨?_, ?_, ?_⟩ <;> rw [hclock]
  · exact nofun
  · exact nofun
  · exact iff_of_false (fun ⟨m, hm⟩ => hexec m hm) nofun

/-! ## The clock's events -/

/-- The clock LOCKED where it was SETTLING keeps the rest coherent: in RUN only in the same format (R58, R62). -/
theorem State.RunAgrees.lockIn {s : State} (h : s.Coherent) (f : FormatNo) (hformat : s.output.opState = .run → f = s.output.format)
    (hidle : s.compositor = .idle) : (s.lockIn f).RunAgrees := by
  have hrun := h.run
  refine ⟨hrun.forced, hrun.default, fun hr v hv => ?_, hrun.inUse, hrun.config, hrun.swap, hrun.zones, fun v p m r hc => ?_⟩
  · rw [show (s.lockIn f).output.format = s.output.format from hformat hr]
    exact hrun.grids hr v hv
  · cases hidle.symm.trans hc

theorem State.endFormat_sameRun (s : State) (r : Result) :
    (s.endFormat r).output = s.output ∧ (∀ m, (s.endFormat r).mgmt.executor ≠ .attempt m) ∧
      (s.RunAgrees → (s.endFormat r).RunAgrees) := by
  rcases s.endFormat_cases r with ⟨m, -, h⟩ | ⟨hidle, h⟩ <;> rw [h]
  · exact ⟨rfl, nofun, fun h => ⟨h.forced, h.default, h.grids, h.inUse, h.config, h.swap, h.zones, h.composing⟩⟩
  · refine ⟨rfl, fun m hm => ?_, id⟩
    cases hidle.symm.trans hm

theorem State.Coherent.lockFormat {s : State} (h : s.Coherent) : s.lockFormat.Coherent := by
  unfold State.lockFormat
  split_ifs with hat
  · obtain ⟨f, t, hclock⟩ := (s.attempting_iff .format).mp hat
    have hphase := (h.clock.target _ f t hclock).2.2
    obtain ⟨houtput, hexec, hkeep⟩ := (s.lockIn s.output.format).endFormat_sameRun .ok
    refine ⟨.of_locked (houtput ▸ rfl) hexec, hkeep (.lockIn h _ (fun _ => rfl) (h.idle_of_phase ?_))⟩
    rw [hphase]
    nofun
  · exact h

theorem State.Coherent.lockRelock {s : State} (h : s.Coherent) : s.lockRelock.Coherent := by
  unfold State.lockRelock
  split_ifs with hat
  · obtain ⟨f, t, hclock⟩ := (s.attempting_iff .relock).mp hat
    have hphase := (h.clock.target _ f t hclock).2.2
    refine ⟨.of_locked rfl (h.no_attempt fun f t hf => ?_), .lockIn h _ (fun _ => rfl) (h.idle_of_phase ?_)⟩
    · cases hclock.symm.trans hf
    · rw [hphase]
      nofun
  · exact h

theorem State.Coherent.expireFormat {s : State} (h : s.Coherent) : s.expireFormat.Coherent := by
  unfold State.expireFormat
  split_ifs with hat
  · obtain ⟨f, t, hclock, -⟩ := (s.lockExpired_iff .format).mp hat
    have hconfig := h.clock.config f t hclock
    obtain ⟨houtput, hexec, hkeep⟩ := ((s.lockIn 0).raiseLatch .lockFail).endFormat_sameRun .lockFail
    have hlocked : (s.lockIn 0).RunAgrees := .lockIn h _ (fun hr => nomatch hconfig.symm.trans hr) (h.idle_of_config hconfig)
    refine ⟨.of_locked (houtput ▸ rfl) hexec, hkeep ?_⟩
    exact ⟨hlocked.forced, hlocked.default, hlocked.grids, hlocked.inUse, hlocked.config, hlocked.swap, hlocked.zones,
      hlocked.composing⟩
  · exact h

/-- A fall to CONFIG leaves every zone DISARMED (R63, R165). -/
theorem ZoneMonitor.fallen_zone (m : ZoneMonitor) (z : ZoneNo) : (m.fallen.zone z).state = .disarmed := by
  have h : m.fallen.zone z = (m.mapZones fun x => { x with state := .disarmed }).zone z := rfl
  rw [h, ZoneMonitor.zone_mapZones]

theorem State.swappedIn_pending (s : State) : s.swappedIn.swapPending = false := by
  unfold State.swappedIn
  split_ifs with h
  · rfl
  · simpa using h

theorem State.Coherent.expireRelock {s : State} (h : s.Coherent) : s.expireRelock.Coherent := by
  unfold State.expireRelock
  by_cases hat : s.lockExpired .relock = true
  case neg =>
    rw [if_neg hat]
    exact h
  rw [if_pos hat]
  dsimp only
  obtain ⟨f, t, hclock, -⟩ := (s.lockExpired_iff .relock).mp hat
  have hphase := (h.clock.target _ f t hclock).2.2
  have hidle : s.compositor = .idle := h.idle_of_phase (by rw [hphase]; nofun)
  have hexec : ∀ m, s.mgmt.executor ≠ .attempt m := h.no_attempt fun f t hf => by cases hclock.symm.trans hf
  split_ifs with hrun
  case pos =>
    rw [State.fallToConfig_eq]
    refine ⟨.of_locked rfl hexec, h.run.forced, nofun, nofun, nofun, fun _ => rfl, fun hs => ?_, fun z hz => ?_, fun v p m r hc => ?_⟩
    · cases hs.symm.trans ((s.lockIn 0).raiseLatch .lockFail).swappedIn_pending
    · exact absurd (ZoneMonitor.fallen_zone _ z) hz
    · cases hidle.symm.trans hc
  case neg =>
    have hlocked : (s.lockIn 0).RunAgrees := .lockIn h _ (fun hr => absurd (s.isRun_iff.mpr hr) hrun) hidle
    exact ⟨.of_locked rfl hexec, hlocked.forced, hlocked.default, hlocked.grids, hlocked.inUse, hlocked.config, hlocked.swap,
      hlocked.zones, hlocked.composing⟩

theorem State.stopLines_sameRun (s : State) : s.SameRun s.stopLines := by
  obtain ⟨_, _, h⟩ := s.stopLines_eq
  rw [h]
  exact ⟨rfl, rfl, rfl, rfl, rfl, rfl, rfl, rfl, rfl⟩

theorem State.Coherent.abandon {s : State} (h : s.Coherent) : s.abandon.Coherent := by
  rcases s.abandon_cases with ⟨-, he⟩ | ⟨-, he⟩ <;> rw [he]
  · have hrun := h.run
    generalize s.pool.settle = p
    exact ⟨h.clock.of_same rfl rfl, hrun.forced, hrun.default, hrun.grids, hrun.inUse, hrun.config, hrun.swap, hrun.zones, nofun⟩
  · exact h

theorem State.abandon_idle (s : State) : s.abandon.compositor = .idle := by
  rcases s.abandon_cases with ⟨-, he⟩ | ⟨hc, he⟩ <;> rw [he]
  · rfl
  · exact s.not_composing_iff.mp hc

theorem State.abandon_output (s : State) : s.abandon.output = s.output := by
  obtain ⟨p, list, c, he⟩ := s.abandon_eq
  rw [he]
  rfl

/-- A RELOCK attempt that begins from a LOCKED clock with nothing composed keeps coherence (R61). -/
theorem State.Coherent.beginRelock {s : State} (h : s.Coherent) (hclock : s.output.clock = .locked) (hformat : s.output.format ≠ 0)
    (hidle : s.compositor = .idle) : ((s.beginAttempt .relock s.output.format).raiseLatch .unlocked).Coherent := by
  have hrun := h.run
  have hexec : ∀ m, s.mgmt.executor ≠ .attempt m := h.no_attempt fun f t hf => by cases hclock.symm.trans hf
  refine ⟨⟨?_, nofun, iff_of_false (fun ⟨m, hm⟩ => hexec m hm) nofun⟩, hrun.forced, hrun.default, hrun.grids, hrun.inUse,
    hrun.config, hrun.swap, hrun.zones, fun v p m r hc => by cases hidle.symm.trans hc⟩
  rintro k f t hf
  cases hf
  exact ⟨rfl, hformat, rfl⟩

theorem State.Coherent.unlock {s : State} (h : s.Coherent) : s.unlock.Coherent := by
  unfold State.unlock
  split_ifs with hlocked
  · obtain ⟨hclock, hformat⟩ := hlocked
    have houtput : s.stopLines.abandon.output = s.output := (State.abandon_output _).trans s.stopLines_sameRun.output
    have hstopped : s.stopLines.abandon.Coherent := (h.of_same s.stopLines_sameRun).abandon
    have hbegun := hstopped.beginRelock (houtput ▸ hclock) (houtput ▸ hformat) (State.abandon_idle _)
    rwa [houtput] at hbegun
  · exact h

/-! ## The current view is VALID after a start in RUN (R122, R123) -/

theorem State.viewValid_iff (s : State) (v : ViewNo) : s.viewValid v = true ↔ (s.view v).state = .valid := by
  simp [State.viewValid]

/-- The candidate is VALID where the default view is (R122). -/
theorem findCandidate_valid {valid : ViewNo → Bool} {d : ViewNo} (hd : valid d = true) (snap : SignalSnapshot) (l : List Rule) :
    valid (findCandidate valid snap d l).view = true := by
  induction l with
  | nil => exact hd
  | cons r rest ih =>
    unfold findCandidate
    split_ifs with _ htarget
    · exact htarget
    · exact ih
    · exact ih

theorem Selector.choose_forced (x : Selector) (now : PartTime) (valid : ViewNo → Bool) (snap : SignalSnapshot) :
    (x.choose now valid snap).1.forced = x.forced ∧ (x.choose now valid snap).1.defaultView = x.defaultView := by
  obtain ⟨_, _, h⟩ := x.choose_frame now valid snap
  rw [h]
  exact ⟨rfl, rfl⟩

/-- The current view fixed is VALID where the default view is, and a force's view (R123). -/
theorem Selector.choose_valid {x : Selector} {valid : ViewNo → Bool} (hdefault : valid x.defaultView = true)
    (hforced : ∀ v, x.forced = some v → valid v = true) (now : PartTime) (snap : SignalSnapshot) :
    ∃ v, (x.choose now valid snap).1.current = some v ∧ valid v = true := by
  have hfound : valid (findCandidate valid snap x.defaultView x.ruleList).view = true := findCandidate_valid hdefault snap _
  unfold Selector.choose
  split
  case h_1 f hf => exact ⟨f, rfl, hforced f hf⟩
  case h_2 =>
    dsimp only
    unfold Selector.chooseFrom
    split
    case h_1 => exact ⟨_, rfl, hfound⟩
    case h_2 v hcur =>
      split_ifs with hinvalid hsame
      · exact ⟨_, rfl, hfound⟩
      · exact ⟨v, hcur, by simpa using hinvalid⟩
      · exact ⟨_, rfl, hfound⟩
      · unfold Selector.dwellTest
        dsimp only
        split_ifs
        · exact ⟨_, rfl, hfound⟩
        · exact ⟨v, hcur, by simpa using hinvalid⟩

/-! ## The output frame (R51 to R54) -/

/-- A zone settled by its activity is armed only where it is active (R156). -/
theorem ZoneState.active_of_settled {st : ZoneState} {active rearm : Bool} (h : st.settled active rearm ≠ .disarmed) :
    active = true := by
  by_contra hactive
  exact h (if_pos (by simpa using hactive))

/-- A start in CONFIG changes the pool, the selector, the overlay engine and the compositor alone (R51). -/
theorem State.configStart_eq (s : State) : ∃ p signals,
    s.configStart = { s with
      pool := p
      selector := { s.selector with signals := signals, snapshot := none, current := none }
      overlay := { s.overlay with drawList := [], budget := false }
      compositor := .idle } := ⟨_, _, rfl⟩

theorem State.Coherent.frameStart {s : State} (h : s.Coherent) : s.frameStart.Coherent := by
  have hrun := h.run
  have hexec (hdue : s.startDue = true) : ∀ m, s.mgmt.executor ≠ .attempt m := h.no_attempt fun f t hf => by
    cases (s.startDue_iff.mp hdue).1.symm.trans hf
  rcases s.frameStart_cases with ⟨-, he⟩ | ⟨hdue, hop, he⟩ | ⟨hdue, hop, he⟩ <;> rw [he]
  · exact h
  · obtain ⟨n, -, hstart⟩ := s.openFrame.runStart_eq
    obtain ⟨hforced, hdefault⟩ := Selector.choose_forced { s.selector with
      signals := s.selector.signals.aged s.partTime s.selector.timeouts
      snapshot := some s.openFrame.startSnapshot } s.partTime s.viewValid s.openFrame.startSnapshot
    obtain ⟨v, hcurrent, hvalid⟩ := Selector.choose_valid (x := { s.selector with
      signals := s.selector.signals.aged s.partTime s.selector.timeouts
      snapshot := some s.openFrame.startSnapshot }) (valid := s.viewValid) ((s.viewValid_iff _).mpr (hrun.default hop))
      (fun v hv => (s.viewValid_iff v).mpr (hrun.forced v hv)) s.partTime s.openFrame.startSnapshot
    change s.openFrame.choice.1.forced = _ at hforced
    change s.openFrame.choice.1.defaultView = _ at hdefault
    change s.openFrame.choice.1.current = _ at hcurrent
    rw [hstart]
    refine ⟨.of_locked (s.startDue_iff.mp hdue).1 (hexec hdue), ?_, ?_, hrun.grids, ?_, ?_, fun _ => hop, ?_, ?_⟩
    · exact fun w hw => hrun.forced w (hforced.symm.trans hw)
    · exact fun hr => hdefault ▸ hrun.default hr
    · rintro w hw
      cases hcurrent.symm.trans hw
      exact .inl ((s.viewValid_iff v).mp hvalid)
    · exact fun hc => nomatch hop.symm.trans hc
    · intro z hz
      change ((s.openFrame.armed).zone z).state ≠ _ at hz
      show ((s.openFrame.armed).zone z).record.active s.isRun s.openFrame.choice.1.current = true
      rw [State.armed, ZoneMonitor.zone_mapZones] at hz ⊢
      rw [s.isRun_iff.mpr hop]
      exact ZoneState.active_of_settled hz
    · rintro w p m r hc
      change s.openFrame.begun s.openFrame.choice.1.current = _ at hc
      rw [hcurrent] at hc
      cases hc
      exact ⟨hop, hcurrent, rfl⟩
  · obtain ⟨p, signals, hstart⟩ := s.openFrame.configStart_eq
    rw [hstart]
    exact ⟨.of_locked (s.startDue_iff.mp hdue).1 (hexec hdue), hrun.forced, hrun.default, hrun.grids, nofun, fun _ => rfl, hrun.swap,
      fun z hz => absurd (h.disarmed hop z) hz, nofun⟩

/-- A zone's step at a frame done leaves DISARMED for what it is (R157, R161). -/
theorem ZoneState.step_disarmed_iff (st : ZoneState) (r : ZoneRecord) (changed : Nat) (now : PartTime) :
    st.step r changed now = .disarmed ↔ st = .disarmed := by
  unfold ZoneState.step
  dsimp only
  split
  · simp
  all_goals split_ifs <;> simp

/-- The position in the output frame moved on, with nothing composed and the clock not SETTLING, keeps coherence. -/
theorem State.Coherent.withPhase {s : State} (h : s.Coherent) (phase : FramePhase) (hphase : s.output.phase ≠ .none)
    (hidle : s.compositor = .idle) : (s.setOutput { s.output with phase := phase }).Coherent := by
  have hrun := h.run
  refine ⟨⟨fun k f t hf => absurd (h.clock.target k f t hf).2.2 hphase, h.clock.config, h.clock.executor⟩, hrun.forced, hrun.default,
    hrun.grids, hrun.inUse, hrun.config, hrun.swap, hrun.zones, fun v p m r hc => ?_⟩
  cases hidle.symm.trans hc

theorem ZoneMonitor.zone_detect (m : ZoneMonitor) (x : TileResults) (now : PartTime) (z : ZoneNo) :
    (m.detect x now).zone z = (m.zone z).detect (changedCount m x (m.zone z)) now :=
  m.zone_mapZones (fun y => y.detect (changedCount m x y) now) z

theorem State.Coherent.finished {s : State} (h : s.Coherent) (hphase : s.output.phase = .active) (sc : Scene) :
    (s.finished sc).Coherent := by
  have hrun := h.run
  have hzone : ∀ z, (s.monitor.detect sc.results s.partTime).zone z =
      (s.monitor.zone z).detect (changedCount s.monitor sc.results (s.monitor.zone z)) s.partTime :=
    s.monitor.zone_detect sc.results s.partTime
  unfold State.finished
  generalize s.pool.settle = p
  generalize s.monitor.detect sc.results s.partTime = monitor at hzone
  refine ⟨⟨fun k f t hf => ?_, h.clock.config, h.clock.executor⟩, hrun.forced, hrun.default, hrun.grids, hrun.inUse, hrun.config,
    hrun.swap, fun z hz => ?_, nofun⟩
  · cases hphase.symm.trans (h.clock.target k f t hf).2.2
  · change (monitor.zone z).state ≠ _ at hz
    show (monitor.zone z).record.active s.isRun s.selector.current = true
    rw [hzone] at hz ⊢
    exact hrun.zones z fun hd => hz ((ZoneState.step_disarmed_iff _ _ _ _).mpr hd)

theorem State.Coherent.frameDone {s : State} (h : s.Coherent) : s.frameDone.Coherent := by
  have hsent : (s.sendTo (activeHeight s.output.format)).Coherent := h.of_same ⟨rfl, rfl, rfl, rfl, rfl, rfl, rfl, rfl, rfl⟩
  rcases s.frameDone_cases with ⟨-, he⟩ | ⟨hdue, hidle, he⟩ | ⟨hdue, v, p, m, r, -, he⟩ <;> rw [he]
  · exact h
  · have hactive := (s.doneDue_iff.mp hdue).1
    exact hsent.withPhase .done (by rw [State.sendTo, State.setOverlay_output, State.setPort_output, hactive]; nofun) hidle
  · exact hsent.finished (s.doneDue_iff.mp hdue).1 _

theorem State.Coherent.blanking {s : State} (h : s.Coherent) : s.blanking.Coherent := by
  unfold State.blanking
  split_ifs with hdone
  · have hx : ((s.setPort { s.port with
        status := s.statusPacket, replies := (s.mgmt.replies.take 8).map encodeReply }).setMgmt
        { s.mgmt with replies := s.mgmt.replies.drop 8 }).Coherent := h.of_same ⟨rfl, rfl, rfl, rfl, rfl, rfl, rfl, rfl, rfl⟩
    refine hx.withPhase .blanked (fun hn => nomatch hdone.symm.trans hn) (h.idle_of_phase fun ha => nomatch hdone.symm.trans ha)
  · exact h

/-- One zone's state changed keeps coherence where it stays active or is DISARMED. -/
theorem State.RunAgrees.setZone {s : State} (h : s.RunAgrees) (z : ZoneNo) (x : Zone) (ks : List Latch)
    (hx : x.state ≠ .disarmed → x.record.active s.isRun s.selector.current = true) :
    ((s.setMonitor (s.monitor.setZone z x)).raiseLatches ks).RunAgrees := by
  refine ⟨h.forced, h.default, h.grids, h.inUse, h.config, h.swap, fun w hw => ?_, h.composing⟩
  by_cases hwz : w = z
  · subst hwz
    rw [State.raiseLatches_monitor, State.setMonitor_monitor, ZoneMonitor.zone_setZone_same] at hw ⊢
    exact hx hw
  · rw [State.raiseLatches_monitor, State.setMonitor_monitor, ZoneMonitor.zone_setZone_other _ _ hwz] at hw ⊢
    exact h.zones w hw

theorem State.Coherent.holdExpiry {s : State} (h : s.Coherent) (z : ZoneNo) : (s.holdExpiry z).Coherent := by
  unfold State.holdExpiry
  dsimp only
  split_ifs with hdue
  · refine ⟨h.clock.of_same rfl rfl, h.run.setZone z _ [.zoneFall z] fun _ => h.run.zones z fun hd => ?_⟩
    rw [Zone.holdDue, hd] at hdue
    cases hdue
  · exact h

/-! ## Requests -/

/-- One view replaced keeps coherence where no force, default view in RUN or use is broken, and a VALID view fits in RUN (R68, R85,
R87). -/
theorem State.RunAgrees.setView {s : State} (h : s.RunAgrees) (v : ViewNo) (x : View)
    (hforced : s.selector.forced = some v → x.state = .valid)
    (hdefault : s.output.opState = .run → s.selector.defaultView = v → x.state = .valid)
    (hgrid : s.output.opState = .run → x.state = .valid → x.fitsGrid s.output.format = true)
    (huse : s.selector.current = some v → x.state = .valid ∨ x.state = .withdrawn) : (s.setView v x).RunAgrees := by
  have hview (w : ViewNo) : (s.setView v x).view w = if w = v then x else s.view w := by
    split_ifs with hw
    · rw [hw, State.view_setView_same]
    · exact s.view_setView_other x hw
  refine ⟨fun w hw => ?_, fun hr => ?_, fun hr w hw => ?_, fun w hw => ?_, h.config, h.swap, h.zones, h.composing⟩
  · rw [hview]
    split_ifs with hwv
    · exact hforced (hwv ▸ hw)
    · exact h.forced w hw
  · rw [hview]
    split_ifs with hd
    · exact hdefault hr hd
    · exact h.default hr
  · rw [hview] at hw ⊢
    split_ifs at hw ⊢
    · exact hgrid hr hw
    · exact h.grids hr w hw
  · rw [hview]
    split_ifs with hwv
    · exact huse (hwv ▸ hw)
    · exact h.inUse w hw

/-- A view that is neither VALID nor in use can be replaced by one that is not VALID. -/
theorem State.RunAgrees.setView_loading {s : State} (h : s.RunAgrees) {v : ViewNo} (x : View) (hstate : (s.view v).state ≠ .valid)
    (huse : s.selector.current ≠ some v) (hx : x.state = .loading) : (s.setView v x).RunAgrees := by
  refine h.setView v x (fun hf => absurd (h.forced v hf) hstate) (fun hr hd => ?_) (fun _ hv => nomatch hx.symm.trans hv)
    fun hu => absurd hu huse
  exact absurd (h.default hr) (hd ▸ hstate)

/-- The force released where it named a view keeps what the state without a force on that view has. -/
theorem State.RunAgrees.releaseForce {s : State} (v : ViewNo)
    (h : (s.setSelector { s.selector with forced := if s.selector.forced = some v then none else s.selector.forced }).RunAgrees) :
    (s.releaseForce v).RunAgrees := by
  unfold State.releaseForce
  split_ifs with hf
  · rw [if_pos hf] at h
    exact ⟨h.forced, h.default, h.grids, h.inUse, h.config, h.swap, h.zones, h.composing⟩
  · rw [if_neg hf] at h
    exact h

theorem State.releaseForce_clock {s : State} (h : s.ClockAgrees) (v : ViewNo) : (s.releaseForce v).ClockAgrees := by
  unfold State.releaseForce
  split_ifs <;> exact h.of_same rfl rfl

/-- A view replaced by one that is not VALID, its force released (R77, R83, R85). -/
theorem State.RunAgrees.setView_released {s : State} (h : s.RunAgrees) {v : ViewNo} (x : View) (hx : x.state ≠ .valid)
    (hdefault : s.output.opState = .run → s.selector.defaultView ≠ v)
    (huse : s.selector.current = some v → x.state = .withdrawn) : ((s.setView v x).releaseForce v).RunAgrees := by
  refine .releaseForce v ?_
  have hfree : (s.setSelector { s.selector with
      forced := if s.selector.forced = some v then none else s.selector.forced }).RunAgrees := by
    refine ⟨fun w hw => h.forced w ?_, h.default, h.grids, h.inUse, h.config, h.swap, h.zones, h.composing⟩
    change (if s.selector.forced = some v then none else s.selector.forced) = some w at hw
    split_ifs at hw
    exact hw
  refine hfree.setView v x (fun hf => ?_) (fun hr hd => absurd hd (hdefault hr)) (fun _ hv => absurd hv hx) fun hu => .inr (huse hu)
  change (if s.selector.forced = some v then none else s.selector.forced) = some v at hf
  split_ifs at hf with hv
  exact absurd hf hv

theorem State.softRestart_view (s : State) (v : ViewNo) : s.softRestart.view v = (s.view v).restarted := by
  have h : s.softRestart.views = restartViews s.views := by
    unfold State.softRestart
    split_ifs
    · obtain ⟨_, _, he⟩ := s.stopLines_eq
      rw [he]
    · rfl
  rw [State.view, h, restartViews, Table.read_tabulate, if_pos v.isLt]
  rfl



/-- The fields that a soft restart leaves for coherence to look at. -/
theorem State.softRestart_run (s : State) :
    s.softRestart.output = s.output.restarted ∧ s.softRestart.mgmt = .initial ∧ s.softRestart.selector = s.selector.restarted ∧
      s.softRestart.overlay.swapPending = false ∧ s.softRestart.monitor = s.monitor.restarted ∧ s.softRestart.compositor = .idle := by
  unfold State.softRestart
  split_ifs
  · obtain ⟨port, budget, he⟩ := s.stopLines_eq
    rw [he]
    generalize s.pool.cleared = p
    exact ⟨rfl, rfl, rfl, rfl, rfl, rfl⟩
  · exact ⟨rfl, rfl, rfl, rfl, rfl, rfl⟩

theorem ZoneMonitor.restarted_zone (m : ZoneMonitor) (z : ZoneNo) : m.restarted.zone z = ⟨(m.zone z).record, .disarmed, 0⟩ :=
  m.zone_mapZones (fun x => ⟨x.record, .disarmed, 0⟩) z

theorem State.Coherent.softRestart {s : State} (h : s.Coherent) (idle : s.mgmt.executor = .idle) : s.softRestart.Coherent := by
  obtain ⟨houtput, hmgmt, hselector, hswap, hmonitor, hcompositor⟩ := s.softRestart_run
  refine ⟨⟨?_, ?_, ?_⟩, ?_, ?_, ?_, ?_, ?_, ?_, ?_, ?_⟩
  · rw [houtput]
    exact h.clock.target
  · rw [houtput]
    exact fun _ _ _ => rfl
  · rw [houtput, hmgmt]
    refine iff_of_false nofun fun hf => ?_
    obtain ⟨m, hm⟩ := h.clock.executor.mpr hf
    cases idle.symm.trans hm
  · rw [hselector]
    exact nofun
  · rw [houtput]
    exact nofun
  · rw [houtput]
    exact nofun
  · rw [hselector]
    exact nofun
  · rw [hselector]
    exact fun _ => rfl
  · rw [hswap]
    exact nofun
  · intro z hz
    rw [hmonitor, ZoneMonitor.restarted_zone] at hz
    exact absurd rfl hz
  · rw [hcompositor]
    exact nofun

/-- Every effect of a request, taken with the executor IDLE, keeps coherence. -/
theorem Effect.coherent {m : Message} {s : State} {a : Answer} (ha : Effect m s a) (h : s.Coherent)
    (idle : s.mgmt.executor = .idle) : a.state.Coherent := by
  have hrun := h.run
  have hexec : ∀ n, s.mgmt.executor ≠ .attempt n := fun n hn => by cases idle.symm.trans hn
  have loaded {v : ViewNo} (hl : (s.view v).state = .loading) (x : View) (hx : x.state = .loading) : (s.setView v x).Coherent := by
    refine ⟨h.clock.of_same rfl rfl, hrun.setView_loading x (fun hv => nomatch hl.symm.trans hv) (fun hu => ?_) hx⟩
    rcases hrun.inUse v hu with hv | hv <;> cases hl.symm.trans hv
  cases ha with
  | same | timeouts | rule | takeEvents => exact h.of_same ⟨rfl, rfl, rfl, rfl, rfl, rfl, rfl, rfl, rfl⟩
  | cameraRecord c r => exact h.of_same ⟨rfl, rfl, rfl, rfl, rfl, rfl, rfl, rfl, rfl⟩
  | viewHeader v hd _ hstate => exact loaded hstate _ hstate
  | tile v i r _ hstate => exact loaded hstate _ hstate
  | bank which f => exact h.of_same ⟨rfl, rfl, rfl, rfl, rfl, rfl, by cases which <;> rfl, rfl, rfl⟩
  | settings v dwell _ hvalid =>
    exact ⟨h.clock.of_same rfl rfl, hrun.forced, hvalid, hrun.grids, hrun.inUse, hrun.config, hrun.swap, hrun.zones, hrun.composing⟩
  | zoneRecord z r =>
    exact ⟨h.clock.of_same rfl rfl, hrun.setZone z _ _ ZoneState.active_of_settled⟩
  | openFresh v hstate hguard =>
    have hclock : (s.setView v { s.view v with state := .loading, headerWritten := false, written := [] }).ClockAgrees :=
      h.clock.of_same rfl rfl
    refine ⟨State.releaseForce_clock hclock v, hrun.setView_released _ nofun (fun hr hd => ?_) fun hu => ?_⟩
    · exact hguard (hd ▸ hrun.default hr) ⟨hd.symm, hr⟩
    · rcases hstate with he | hne
      · rcases hrun.inUse v hu with hv | hv <;> cases he.symm.trans hv
      · exact absurd hu hne
  | openEdit v hstate huse =>
    exact ⟨h.clock.of_same rfl rfl, hrun.setView_loading _ (fun hv => nomatch hstate.symm.trans hv) huse rfl⟩
  | validate v hstate hgrid =>
    exact ⟨h.clock.of_same rfl rfl, hrun.setView v _ (fun _ => rfl) (fun _ _ => rfl) (fun hr _ => hgrid hr) fun _ => .inl rfl⟩
  | withdraw v hstate hguard =>
    have hclock : (s.setViewState v .withdrawn).ClockAgrees := h.clock.of_same rfl rfl
    exact ⟨State.releaseForce_clock hclock v, hrun.setView_released _ nofun (fun hr hd => hguard ⟨hd.symm, hr⟩) fun _ => rfl⟩
  | pendSwap hr =>
    exact ⟨h.clock.of_same rfl rfl, hrun.forced, hrun.default, hrun.grids, hrun.inUse, hrun.config, fun _ => hr, hrun.zones,
      hrun.composing⟩
  | swap =>
    exact ⟨h.clock.of_same rfl rfl, hrun.forced, hrun.default, hrun.grids, hrun.inUse, hrun.config, nofun, hrun.zones,
      hrun.composing⟩
  | enable c hoff => exact h.of_same (s.ingested_enableCamera (agree := True) c hoff).onlyCamera_self.sameRun
  | disable c => exact h.of_same (s.ingested_disableCamera (agree := True) c).onlyCamera_self.sameRun
  | restartCamera c => exact h.of_same (s.ingested_restartCamera (agree := True) c).onlyCamera_self.sameRun
  | force v hvalid =>
    refine ⟨h.clock.of_same rfl rfl, fun w hw => ?_, hrun.default, hrun.grids, hrun.inUse, hrun.config, hrun.swap, hrun.zones,
      hrun.composing⟩
    cases hw
    exact hvalid
  | release =>
    exact ⟨h.clock.of_same rfl rfl, nofun, hrun.default, hrun.grids, hrun.inUse, hrun.config, hrun.swap, hrun.zones,
      hrun.composing⟩
  | formatZero hconfig =>
    obtain ⟨port, budget, hstop⟩ := s.stopLines_eq
    rw [hstop]
    have hlocked : (s.lockIn 0).RunAgrees :=
      .lockIn h 0 (fun hr => nomatch hconfig.symm.trans hr) (h.idle_of_config hconfig)
    exact ⟨.of_locked rfl hexec, hlocked.forced, hlocked.default, hlocked.grids, hlocked.inUse, hlocked.config, hlocked.swap,
      hlocked.zones, hlocked.composing⟩
  | attempt f hconfig hf =>
    obtain ⟨port, budget, hstop⟩ := s.stopLines_eq
    rw [hstop]
    refine ⟨⟨fun k g t hg => ?_, fun _ _ _ => hconfig, ?_⟩, hrun.forced, fun hr => (nomatch hconfig.symm.trans hr),
      fun hr => (nomatch hconfig.symm.trans hr), hrun.inUse, hrun.config, hrun.swap, hrun.zones, fun v p m r hc => ?_⟩
    · cases hg
      exact ⟨rfl, hf, rfl⟩
    · exact iff_of_true ⟨m, rfl⟩ ⟨f, s.partTime, rfl⟩
    · cases (h.idle_of_config hconfig).symm.trans hc
  | run hconfig hclock hview hgrid =>
    refine ⟨.of_locked hclock hexec, hrun.forced, fun _ => hview, fun _ => hgrid, hrun.inUse, nofun, fun _ => rfl,
      fun z hz => absurd (h.disarmed hconfig z) hz, fun v p m r hc => ?_⟩
    cases (h.idle_of_config hconfig).symm.trans hc
  | restart => exact h.softRestart idle

/-! ## Every command -/

theorem Answer.settle_sameRun (a : Answer) (m : Message) : a.state.SameRun (a.settle m) := by
  obtain ⟨s, _ | ⟨r, p⟩⟩ := a <;> exact ⟨rfl, rfl, rfl, rfl, rfl, rfl, rfl, rfl, rfl⟩

theorem State.reset_coherent : State.reset.Coherent :=
  ⟨.of_locked rfl nofun, nofun, nofun, nofun, nofun, fun _ => rfl, nofun, fun _ hz => absurd rfl hz, nofun⟩

theorem Follows.coherent {s s' : State} (hs : s.Coherent) (h : Follows s s') : s'.Coherent := by
  have timed (t : PartTime) : (s.atTime t).Coherent := hs.of_same ⟨rfl, rfl, rfl, rfl, rfl, rfl, rfl, rfl, rfl⟩
  have camera {agree : Prop} {t : PartTime} {c : Camera} {x : State} (h : (s.atTime t).Ingested agree c x) : x.Coherent :=
    hs.of_same h.onlyCamera.sameRun
  cases h with
  | powerOn => exact State.reset_coherent.of_same ⟨rfl, rfl, rfl, rfl, rfl, rfl, rfl, rfl, rfl⟩
  | time t => exact timed t
  | frameOpen t c number => exact camera ((s.atTime t).ingested_frameOpen (agree := False) c number False.elim)
  | line t c n samples good => exact camera ((s.atTime t).ingested_line (agree := True) c n samples good)
  | frameClose t c claimed => exact camera ((s.atTime t).ingested_frameClose (agree := True) c claimed)
  | linkDown t c => exact camera ((s.atTime t).ingested_linkDown (agree := True) c)
  | lossExpiry t c => exact camera ((s.atTime t).ingested_lossExpiry (agree := True) c)
  | lockFormat t => exact (timed t).lockFormat
  | lockRelock t => exact (timed t).lockRelock
  | expireFormat t => exact (timed t).expireFormat
  | expireRelock t => exact (timed t).expireRelock
  | unlock t => exact (timed t).unlock
  | holdExpiry t z => exact (timed t).holdExpiry z
  | frameStart t => exact (timed t).frameStart
  | frameDone t => exact (timed t).frameDone
  | blanking t => exact (timed t).blanking
  | receive t m =>
    refine (timed t).of_same ?_
    unfold State.receive State.signalMessage State.offerRequest
    split_ifs
    · split <;> exact ⟨rfl, rfl, rfl, rfl, rfl, rfl, rfl, rfl, rfl⟩
    all_goals exact ⟨rfl, rfl, rfl, rfl, rfl, rfl, rfl, rfl, rfl⟩
  | malformed t m rest => exact (timed t).of_same ⟨rfl, rfl, rfl, rfl, rfl, rfl, rfl, rfl, rfl⟩
  | executed row t m rest head idle hrow =>
    have htaken : (s.taken t rest).Coherent := hs.of_same ⟨rfl, rfl, rfl, rfl, rfl, rfl, rfl, rfl, rfl⟩
    exact ((effect_of_row row m (s.taken t rest) hrow).coherent htaken idle).of_same (Answer.settle_sameRun _ m)

/-- Settles O56: every state that follows a coherent one is coherent. -/
theorem stepKeepsThePartCoherent : Obligations.StepKeepsThePartCoherent := fun _ _ =>
  step_keeps (P := State.Coherent) (fun _ _ h => h.of_same ⟨rfl, rfl, rfl, rfl, rfl, rfl, rfl, rfl, rfl⟩)
    (fun _ _ => Follows.coherent)

end Sys2Proof.Machine
end

section
/-!
PROOFS. The settling of held slots, and that every step keeps the slots, owners, ready lists and filling frames in agreement (R5, R23,
R29 to R32, R34, R35, R38, R41, R44).
-/
namespace Sys2Proof.Machine

/-! ## One slot written -/

theorem Pool.slot_setSlot (p : Pool) (k j : SlotNo) (x : Slot) : (p.setSlot k x).slot j = if j = k then x else p.slot j := by
  split_ifs with h
  · rw [h, Pool.slot_setSlot_same]
  · exact p.slot_setSlot_other x h

theorem Pool.ready_setReady (p : Pool) (c d : Camera) (l : List SlotNo) :
    (p.setReady c l).ready.get d = if d = c then l else p.ready.get d := by
  split_ifs with h
  · rw [h, Pool.ready_setReady_same]
  · exact p.ready_setReady_other l h

/-! ## Settling (R44) -/

section
variable {p : Pool} {k : SlotNo}

theorem Pool.settleSlot_freed {c : Camera} {f : FrameRecord} {o : Bool} (hheld : p.slot k = .held c f o)
    (h : o = true ∨ p.ready.get c ≠ []) : p.settleSlot k = p.setSlot k .free := by
  rw [Pool.settleSlot, hheld]
  exact if_pos h

theorem Pool.settleSlot_retained {c : Camera} {f : FrameRecord} (hheld : p.slot k = .held c f false) (h : p.ready.get c = []) :
    p.settleSlot k = (p.setSlot k (.ready c f false)).setReady c [k] := by
  rw [Pool.settleSlot, hheld]
  exact if_neg (by simp [h])

theorem Pool.settleSlot_other (h : ∀ c f o, p.slot k ≠ .held c f o) : p.settleSlot k = p := by
  unfold Pool.settleSlot
  split
  · exact absurd ‹_› (h _ _ _)
  · rfl

/-- Everything the settling of one slot can be (R44). -/
theorem Pool.settleSlot_cases (p : Pool) (k : SlotNo) :
    (∃ c f o, p.slot k = .held c f o ∧ (o = true ∨ p.ready.get c ≠ []) ∧ p.settleSlot k = p.setSlot k .free) ∨
    (∃ c f, p.slot k = .held c f false ∧ p.ready.get c = [] ∧
      p.settleSlot k = (p.setSlot k (.ready c f false)).setReady c [k]) ∨
    (∀ c f o, p.slot k ≠ .held c f o) ∧ p.settleSlot k = p := by
  by_cases hheld : ∃ c f o, p.slot k = .held c f o
  · obtain ⟨c, f, o, hheld⟩ := hheld
    by_cases hfree : o = true ∨ p.ready.get c ≠ []
    · exact .inl ⟨c, f, o, hheld, hfree, Pool.settleSlot_freed hheld hfree⟩
    · obtain ⟨ho, hready⟩ := not_or.mp hfree
      rw [Bool.not_eq_true] at ho
      subst ho
      exact .inr (.inl ⟨c, f, hheld, not_not.mp hready, Pool.settleSlot_retained hheld (not_not.mp hready)⟩)
  · simp only [not_exists] at hheld
    exact .inr (.inr ⟨hheld, Pool.settleSlot_other hheld⟩)

/-- Settling one slot leaves every other slot, and the ready lists of all cameras but its holder. -/
theorem Pool.settleSlot_frame (p : Pool) (k : SlotNo) :
    (∀ j, j ≠ k → (p.settleSlot k).slot j = p.slot j) ∧
      (∀ c, (∀ f o, p.slot k ≠ .held c f o) → (p.settleSlot k).ready.get c = p.ready.get c) ∧
      (p.settleSlot k).pixels = p.pixels ∧ (p.settleSlot k).snapshot = p.snapshot := by
  rcases p.settleSlot_cases k with ⟨c, f, o, -, -, he⟩ | ⟨c, f, hheld, -, he⟩ | ⟨-, he⟩ <;> rw [he]
  · exact ⟨fun j hj => p.slot_setSlot_other _ hj, fun _ _ => rfl, rfl, rfl⟩
  · refine ⟨fun j hj => (Pool.slot_setReady _ _ _ _).trans (p.slot_setSlot_other _ hj), fun d hd => ?_, rfl, rfl⟩
    rw [Pool.ready_setReady, if_neg]
    · rfl
    · rintro rfl
      exact hd f false hheld
  · exact ⟨fun _ _ => rfl, fun _ _ => rfl, rfl, rfl⟩

end

/-- What the settling of the slots of a list makes of the pool. -/
structure Pool.SettledOn (l : List SlotNo) (p p' : Pool) : Prop where
  freed : ∀ k ∈ l, ∀ c f o, p.slot k = .held c f o → (o = true ∨ p.ready.get c ≠ []) → p'.slot k = .free
  retained : ∀ k ∈ l, ∀ c f, p.slot k = .held c f false → p.ready.get c = [] →
    p'.slot k = .ready c f false ∧ p'.ready.get c = [k]
  others : ∀ k, (k ∉ l ∨ ∀ c f o, p.slot k ≠ .held c f o) → p'.slot k = p.slot k
  lists : ∀ c, (∀ k ∈ l, ∀ f, p.slot k = .held c f false → p.ready.get c ≠ []) → p'.ready.get c = p.ready.get c
  pixels : p'.pixels = p.pixels
  snapshot : p'.snapshot = p.snapshot

/-- Settling one slot more, of a camera that holds no other, settles the list with it. -/
theorem Pool.SettledOn.cons {k : SlotNo} {l : List SlotNo} {p p' : Pool} (hk : k ∉ l) (hone : p.HoldsOneEach)
    (h : (p.settleSlot k).SettledOn l p') : p.SettledOn (k :: l) p' := by
  obtain ⟨hslot, hlist, hpixels, hsnapshot⟩ := p.settleSlot_frame k
  have hne {j : SlotNo} (hj : j ∈ l) : j ≠ k := fun e => hk (e ▸ hj)
  have hkept {j : SlotNo} {c : Camera} {f : FrameRecord} {o : Bool} (hj : j ∈ l) (hheld : p.slot j = .held c f o) :
      (p.settleSlot k).slot j = .held c f o ∧ (p.settleSlot k).ready.get c = p.ready.get c :=
    ⟨(hslot j (hne hj)).trans hheld, hlist c fun g a hg => hne hj (hone _ _ _ _ _ _ _ hheld hg)⟩
  refine ⟨fun j hj c f o hheld hfree => ?_, fun j hj c f hheld hready => ?_, fun j hj => ?_, fun c hc => ?_,
    h.pixels.trans hpixels, h.snapshot.trans hsnapshot⟩
  · rcases List.mem_cons.mp hj with rfl | hj
    · rw [h.others j (.inl hk), Pool.settleSlot_freed hheld hfree, Pool.slot_setSlot_same]
    · obtain ⟨hheld', hready'⟩ := hkept hj hheld
      exact h.freed j hj c f o hheld' (hready'.symm ▸ hfree)
  · rcases List.mem_cons.mp hj with rfl | hj
    · have hsettled := Pool.settleSlot_retained hheld hready
      refine ⟨?_, ?_⟩
      · rw [h.others j (.inl hk), hsettled, Pool.slot_setReady, Pool.slot_setSlot_same]
      · rw [h.lists c fun i hi g hg => ?_, hsettled, Pool.ready_setReady_same]
        rw [hslot i (hne hi)] at hg
        exact absurd (hone _ _ _ _ _ _ _ hg hheld) (hne hi)
    · obtain ⟨hheld', hready'⟩ := hkept hj hheld
      exact h.retained j hj c f hheld' (hready'.trans hready)
  · by_cases hjk : j = k
    · subst hjk
      have hnot : ∀ c f o, p.slot j ≠ .held c f o := hj.resolve_left fun hn => hn List.mem_cons_self
      rw [h.others j (.inl hk), Pool.settleSlot_other hnot]
    · rw [h.others j, hslot j hjk]
      refine hj.imp (fun hn hj => hn (List.mem_cons_of_mem _ hj)) fun hn c f o => ?_
      rw [hslot j hjk]
      exact hn c f o
  · have hready : (p.settleSlot k).ready.get c = p.ready.get c := by
      by_cases hheld : ∃ f o, p.slot k = .held c f o
      · obtain ⟨f, o, hheld⟩ := hheld
        have hfree : o = true ∨ p.ready.get c ≠ [] := by
          cases o with
          | true => exact .inl rfl
          | false => exact .inr (hc k List.mem_cons_self f hheld)
        rw [Pool.settleSlot_freed hheld hfree]
        rfl
      · simp only [not_exists] at hheld
        exact hlist c hheld
    rw [h.lists c fun j hj f hheld => ?_, hready]
    rw [hslot j (hne hj)] at hheld
    rw [hready]
    exact hc j (List.mem_cons_of_mem _ hj) f hheld

/-- One slot's settling makes no second HELD slot. -/
theorem Pool.HoldsOneEach.settleSlot {p : Pool} (h : p.HoldsOneEach) (k : SlotNo) : (p.settleSlot k).HoldsOneEach := by
  have hback (j : SlotNo) (c : Camera) (f : FrameRecord) (o : Bool) (hj : (p.settleSlot k).slot j = .held c f o) :
      p.slot j = .held c f o := by
    rcases p.settleSlot_cases k with ⟨d, g, a, -, -, he⟩ | ⟨d, g, -, -, he⟩ | ⟨-, he⟩ <;> rw [he] at hj
    · rw [Pool.slot_setSlot] at hj
      split_ifs at hj
      exact hj
    · rw [Pool.slot_setReady, Pool.slot_setSlot] at hj
      split_ifs at hj
      exact hj
    · exact hj
  intro i j c f g a b hi hj
  exact h i j c f g a b (hback _ _ _ _ hi) (hback _ _ _ _ hj)

theorem Pool.settledOn_foldl {l : List SlotNo} (hl : l.Nodup) {p : Pool} (h : p.HoldsOneEach) :
    p.SettledOn l (l.foldl Pool.settleSlot p) := by
  induction l generalizing p with
  | nil => exact ⟨nofun, nofun, fun _ _ => rfl, fun _ _ => rfl, rfl, rfl⟩
  | cons k l ih =>
    obtain ⟨hk, hl⟩ := List.nodup_cons.mp hl
    exact .cons hk h (ih hl (h.settleSlot k))

theorem mem_allSlots (k : SlotNo) : k ∈ allSlots := by
  revert k
  decide

/-- Settles O15: each HELD slot is settled in turn, and with one HELD slot a camera the turns do not meet. -/
theorem settlingFreesOrRetains : Obligations.SettlingFreesOrRetains := by
  intro p h
  have hs : p.SettledOn allSlots p.settle := Pool.settledOn_foldl (by decide) h
  exact ⟨fun k => hs.freed k (mem_allSlots k), fun k => hs.retained k (mem_allSlots k), fun k hk => hs.others k (.inr hk),
    fun c hc => hs.lists c fun k _ => hc k, hs.pixels, hs.snapshot⟩

end Sys2Proof.Machine
end

section
/-!
PROOFS. Every step keeps the slots, their owners, the ready lists and the filling frames in agreement (R5, R23, R29 to R32, R34, R35,
R38, R41).
-/
namespace Sys2Proof.Machine

/-! ## One camera's slots -/

/-- The pool and one camera's channel agree, while a frame is composed or not. -/
structure CameraSlots (p : Pool) (c : Camera) (ch : Channel) (composing : Prop) : Prop where
  owned : ∀ k, (p.slot k).owner = some c → k ∈ ch.record.slotList
  filling : ∀ k, p.slot k = .filling c ↔ ∃ f, ch.filling = some f ∧ f.slot = k
  ready : ∀ k, k ∈ p.ready.get c ↔ ∃ frame aged, p.slot k = .ready c frame aged
  once : (p.ready.get c).Nodup
  held : ∀ j k f g a b, p.slot j = .held c f a → p.slot k = .held c g b → j = k
  composed : ∀ k f o, p.slot k = .held c f o → composing
  orphaned : ∀ k f, p.slot k = .held c f false → ch.ingests = true
  service : ch.ingests = false → p.ready.get c = [] ∧ ch.filling = none

/-- No slot is in two cameras' slot lists (R3, R32). -/
def State.ListsDisjoint (s : State) : Prop :=
  ∀ c d k, k ∈ (s.channel c).record.slotList → k ∈ (s.channel d).record.slotList → c = d

/-- A RUN frame is composed. -/
def State.Composing (s : State) : Prop := ∃ v p m r, s.compositor = .composing v p m r

theorem State.slotsAgree_iff (s : State) :
    s.SlotsAgree ↔ (∀ c, CameraSlots s.pool c (s.channel c) s.Composing) ∧ s.ListsDisjoint := by
  constructor
  · intro h
    exact ⟨fun c => ⟨fun k => h.owned k c, fun k => h.filling k c, fun k => h.ready k c, h.once c,
      fun j k => h.held j k c, fun k => h.composed k c, fun k => h.orphaned k c, h.service c⟩, h.disjoint⟩
  · rintro ⟨h, hdisjoint⟩
    exact ⟨fun k c => (h c).owned k, hdisjoint, fun k c => (h c).filling k, fun k c => (h c).ready k, fun c => (h c).once,
      fun j k c => (h c).held j k, fun k c => (h c).composed k, fun k c => (h c).orphaned k, fun c => (h c).service⟩

section
variable {p q : Pool} {c d : Camera} {ch : Channel} {composing composing' : Prop}

/-- A camera's slots go on agreeing where none of them, and not its ready list, is touched. -/
theorem CameraSlots.frame (h : CameraSlots p d ch composing)
    (hslot : ∀ k, (p.slot k).owner = some d ∨ (q.slot k).owner = some d → q.slot k = p.slot k)
    (hready : q.ready.get d = p.ready.get d) : CameraSlots q d ch composing := by
  have hiff {k : SlotNo} {x : Slot} (hx : x.owner = some d) : q.slot k = x ↔ p.slot k = x := by
    constructor
    · intro hq
      exact (hslot k (.inr (hq ▸ hx))).symm.trans hq
    · intro hp
      exact (hslot k (.inl (hp ▸ hx))).trans hp
  refine ⟨fun k hk => h.owned k ?_, fun k => (hiff rfl).trans (h.filling k), fun k => ?_, hready ▸ h.once, fun j k f g a b hj hk => ?_,
    fun k f o hk => h.composed k f o ((hiff rfl).mp hk), fun k f hk => h.orphaned k f ((hiff rfl).mp hk), hready ▸ h.service⟩
  · rwa [← hslot k (.inr hk)]
  · rw [hready, h.ready]
    exact exists_congr fun f => exists_congr fun a => (hiff rfl).symm
  · exact h.held j k f g a b ((hiff rfl).mp hj) ((hiff rfl).mp hk)

/-- A change of channel that keeps its record, its filling frame's slot and its service keeps the agreement. -/
theorem CameraSlots.channel (h : CameraSlots p c ch composing) {x : Channel} (hrecord : x.record = ch.record)
    (hfilling : x.filling.map FillingFrame.slot = ch.filling.map FillingFrame.slot) (hingests : ch.ingests = true → x.ingests = true) :
    CameraSlots p c x composing := by
  have hfill (k : SlotNo) : (∃ f, x.filling = some f ∧ f.slot = k) ↔ ∃ f, ch.filling = some f ∧ f.slot = k := by
    rw [← Option.map_eq_some_iff, ← Option.map_eq_some_iff, hfilling]
  refine ⟨hrecord ▸ h.owned, fun k => (h.filling k).trans (hfill k).symm, h.ready, h.once, h.held, h.composed,
    fun k f hk => hingests (h.orphaned k f hk), fun hout => ?_⟩
  have hch : ch.ingests = false := by
    by_contra hin
    rw [hingests (by simpa using hin)] at hout
    cases hout
  obtain ⟨hready, hnone⟩ := h.service hch
  refine ⟨hready, ?_⟩
  rw [hnone] at hfilling
  exact Option.map_eq_none_iff.mp hfilling

/-- A camera that owns no slot and has no ready frame agrees whatever its record. -/
theorem CameraSlots.of_unowned {ch : Channel} (hslot : ∀ k, (p.slot k).owner ≠ some c) (hready : p.ready.get c = [])
    (hfilling : ch.filling = none) : CameraSlots p c ch composing := by
  have hnot (k : SlotNo) (x : Slot) (hx : x.owner = some c) : p.slot k ≠ x := fun h => hslot k (h ▸ hx)
  refine ⟨fun k hk => absurd hk (hslot k), fun k => iff_of_false (hnot k _ rfl) ?_, fun k => ?_, hready ▸ List.nodup_nil,
    fun j k f g a b hj => absurd hj (hnot j _ rfl), fun k f o hk => absurd hk (hnot k _ rfl),
    fun k f hk => absurd hk (hnot k _ rfl), fun _ => ⟨hready, hfilling⟩⟩
  · rw [hfilling]
    rintro ⟨f, hf, -⟩
    cases hf
  · rw [hready]
    exact iff_of_false List.not_mem_nil fun ⟨f, a, hk⟩ => hnot k _ rfl hk

end

/-! ## The small steps of a camera's event -/

theorem fillLine_slot (width n : Nat) (px : List Pixel) (x : Pool × FillingFrame) : (fillLine width n px x).2.slot = x.2.slot := rfl

theorem fillMissing_slot (width count n : Nat) (x : Pool × FillingFrame) : (fillMissing width count n x).2.slot = x.2.slot := by
  induction count generalizing n x with
  | zero => rfl
  | succ count ih => rw [fillMissing, ih, fillLine_slot]

theorem lineMark_slot (r : CameraRecord) (n : Nat) (px : List Pixel) (good : Bool) (x : Pool × FillingFrame) :
    (lineMark r n px good x).2.slot = x.2.slot := by
  unfold lineMark takeLine
  dsimp only
  split_ifs
  · rfl
  · rfl
  · rw [fillLine_slot, fillMissing_slot]
  · rw [fillLine_slot, fillMissing_slot]

section
variable {c : Camera} {t : PartTime} {p : Pool} {ch : Channel} {composing : Prop}

theorem CameraSlots.slot_of_filling (h : CameraSlots p c ch composing) {f : FillingFrame} (hf : ch.filling = some f) :
    p.slot f.slot = .filling c := (h.filling f.slot).mpr ⟨f, hf, rfl⟩

/-- A camera with one filling frame has one FILLING slot. -/
theorem CameraSlots.eq_slot (h : CameraSlots p c ch composing) {f : FillingFrame} (hf : ch.filling = some f) {k : SlotNo}
    (hk : p.slot k = .filling c) : k = f.slot := by
  obtain ⟨g, hg, rfl⟩ := (h.filling k).mp hk
  cases hf.symm.trans hg
  rfl

/-- A slot that becomes FILLING for a camera with no filling frame (R5, R33, R34): FREE before, or READY and gone from its list. -/
theorem CameraSlots.fill (h : CameraSlots p c ch composing) {k : SlotNo} (hlist : k ∈ ch.record.slotList) (hin : ch.ingests = true)
    (hempty : ch.filling = none) {l : List SlotNo} (hl : l.Nodup) (hmem : ∀ j, j ∈ l ↔ j ∈ p.ready.get c ∧ j ≠ k)
    (number : BitVec 16) :
    CameraSlots ((p.setSlot k (.filling c)).setReady c l) c { ch with filling := some (.start k number) } composing := by
  have hslot (j : SlotNo) : ((p.setSlot k (.filling c)).setReady c l).slot j = if j = k then .filling c else p.slot j := by
    rw [Pool.slot_setReady, Pool.slot_setSlot]
  have hheld {j : SlotNo} {f : FrameRecord} {o : Bool}
      (hj : ((p.setSlot k (.filling c)).setReady c l).slot j = .held c f o) : p.slot j = .held c f o := by
    rw [hslot] at hj
    split_ifs at hj
    exact hj
  refine ⟨fun j hj => ?_, fun j => ?_, fun j => ?_, ?_, fun i j f g a b hi hj => h.held i j f g a b (hheld hi) (hheld hj),
    fun j f o hj => h.composed j f o (hheld hj), fun _ _ _ => hin, fun hout => ?_⟩
  · rw [hslot] at hj
    split_ifs at hj with hjk
    · exact hjk ▸ hlist
    · exact h.owned j hj
  · rw [hslot]
    split_ifs with hjk
    · exact iff_of_true rfl ⟨_, rfl, hjk.symm⟩
    · refine iff_of_false (fun hj => ?_) ?_
      · obtain ⟨f, hf, -⟩ := (h.filling j).mp hj
        cases hempty.symm.trans hf
      · rintro ⟨f, hf, rfl⟩
        cases hf
        exact hjk rfl
  · rw [Pool.ready_setReady_same, hmem, h.ready, hslot]
    split_ifs with hjk
    · exact iff_of_false (fun hj => hj.2 hjk) fun ⟨_, _, hj⟩ => by cases hj
    · exact and_iff_left hjk
  · rwa [Pool.ready_setReady_same]
  · exact absurd (hin.symm.trans hout) (by decide)

/-- The slot of a filling frame that goes FREE or READY, with the ready list it then has (R11, R36). -/
theorem CameraSlots.close (h : CameraSlots p c ch composing) {f : FillingFrame} (hf : ch.filling = some f)
    {x : Slot} {l : List SlotNo} (hx : x = .free ∧ l = p.ready.get c ∨ (∃ r a, x = .ready c r a) ∧ l = p.ready.get c ++ [f.slot])
    {ch' : Channel} (hrecord : ch'.record = ch.record) (hnone : ch'.filling = none) (hin' : ch'.ingests = true) :
    CameraSlots ((p.setSlot f.slot x).setReady c l) c ch' composing := by
  have hfilling := h.slot_of_filling hf
  have hslot (j : SlotNo) : ((p.setSlot f.slot x).setReady c l).slot j = if j = f.slot then x else p.slot j := by
    rw [Pool.slot_setReady, Pool.slot_setSlot]
  have hxheld : ∀ g a, x ≠ .held c g a := by
    rcases hx with ⟨rfl, -⟩ | ⟨⟨_, _, rfl⟩, -⟩ <;> exact fun _ _ => nofun
  have hheld {j : SlotNo} {g : FrameRecord} {o : Bool}
      (hj : ((p.setSlot f.slot x).setReady c l).slot j = .held c g o) : p.slot j = .held c g o := by
    rw [hslot] at hj
    split_ifs at hj
    · exact absurd hj (hxheld g o)
    · exact hj
  have hnot : f.slot ∉ p.ready.get c := fun hm => by
    obtain ⟨_, _, hr⟩ := (h.ready _).mp hm
    cases hfilling.symm.trans hr
  refine ⟨fun j hj => ?_, fun j => ?_, fun j => ?_, ?_, fun i j g g' a b hi hj => h.held i j g g' a b (hheld hi) (hheld hj),
    fun j g o hj => h.composed j g o (hheld hj), fun _ _ _ => hin', fun hout => absurd (hin'.symm.trans hout) (by decide)⟩
  · rw [hslot] at hj
    rw [hrecord]
    split_ifs at hj with hjk
    · exact hjk ▸ h.owned _ (by rw [hfilling]; rfl)
    · exact h.owned j hj
  · rw [hslot, hnone]
    refine iff_of_false (fun hj => ?_) fun ⟨_, hg, _⟩ => by cases hg
    split_ifs at hj with hjk
    · rcases hx with ⟨rfl, -⟩ | ⟨⟨_, _, rfl⟩, -⟩ <;> cases hj
    · exact hjk (h.eq_slot hf hj)
  · rw [Pool.ready_setReady_same, hslot]
    rcases hx with ⟨rfl, rfl⟩ | ⟨⟨r, a, rfl⟩, rfl⟩
    · split_ifs with hjk
      · exact iff_of_false (hjk ▸ hnot) fun ⟨_, _, hj⟩ => by cases hj
      · exact h.ready j
    · rw [List.mem_append, List.mem_singleton]
      split_ifs with hjk
      · exact iff_of_true (.inr hjk) ⟨r, a, rfl⟩
      · exact (or_iff_left hjk).trans (h.ready j)
  · rw [Pool.ready_setReady_same]
    rcases hx with ⟨-, rfl⟩ | ⟨-, rfl⟩
    · exact h.once
    · refine List.nodup_append.mpr ⟨h.once, List.nodup_singleton _, fun a ha b hb hab => ?_⟩
      rw [List.mem_singleton] at hb
      exact hnot (hb ▸ hab ▸ ha)

/-- A slot still a camera's after its channel has left service is HELD and marked orphaned (R37, R38). -/
theorem Slot.held_of_leave {x : Slot} (h : (x.leave c).owner = some c) : ∃ r a, x = .held c r a ∧ x.leave c = .held c r true := by
  cases x with
  | free => cases h
  | filling d =>
    simp only [Slot.leave] at h
    split_ifs at h with hd
    · cases h
    · exact absurd (Option.some.inj h) hd
  | ready d r a =>
    simp only [Slot.leave] at h
    split_ifs at h with hd
    · cases h
    · exact absurd (Option.some.inj h) hd
  | held d r a =>
    cases h
    exact ⟨r, a, rfl, by simp [Slot.leave]⟩

/-- A camera's slots after its channel has left service, whatever state it goes to (R23, R37, R38). -/
theorem CameraSlots.leave (h : CameraSlots p c ch composing) {ch' : Channel} (hrecord : ch'.record = ch.record)
    (hnone : ch'.filling = none) : CameraSlots (p.leave c) c ch' composing := by
  have hback {j : SlotNo} {x : Slot} (hx : x.owner = some c) (hj : (p.leave c).slot j = x) :
      ∃ r a, p.slot j = .held c r a ∧ x = .held c r true := by
    rw [Pool.slot_leave] at hj
    obtain ⟨r, a, hr, hl⟩ := Slot.held_of_leave (hj ▸ hx)
    exact ⟨r, a, hr, hj.symm.trans hl⟩
  have hlist : (p.leave c).ready.get c = [] := (p.left_leave c).list
  refine ⟨fun j hj => ?_, fun j => ?_, fun j => ?_, hlist ▸ List.nodup_nil, fun i j g g' a b hi hj => ?_, fun j g o hj => ?_,
    fun j g hj => ?_, fun _ => ⟨hlist, hnone⟩⟩
  · obtain ⟨r, a, hr, -⟩ := hback hj rfl
    exact hrecord ▸ h.owned j (hr ▸ rfl)
  · refine iff_of_false (fun hj => ?_) fun ⟨_, hg, _⟩ => by cases hnone.symm.trans hg
    obtain ⟨_, _, -, hx⟩ := hback rfl hj
    cases hx
  · refine hlist ▸ iff_of_false List.not_mem_nil fun ⟨_, _, hj⟩ => ?_
    obtain ⟨_, _, -, hx⟩ := hback rfl hj
    cases hx
  · obtain ⟨_, _, hi, -⟩ := hback rfl hi
    obtain ⟨_, _, hj, -⟩ := hback rfl hj
    exact h.held i j _ _ _ _ hi hj
  · obtain ⟨_, _, hj, -⟩ := hback rfl hj
    exact h.composed j _ _ hj
  · obtain ⟨_, _, -, hx⟩ := hback rfl hj
    cases hx

end

/-! ## What an event of one camera leaves of the other cameras' slots -/

/-- Between two pools no slot of another camera is touched, and every HELD slot stays HELD for its camera. -/
structure Pool.KeepsOthers (c : Camera) (p q : Pool) : Prop where
  slot : ∀ d, d ≠ c → ∀ k, (p.slot k).owner = some d ∨ (q.slot k).owner = some d → q.slot k = p.slot k
  held : ∀ k d f o, p.slot k = .held d f o → ∃ o', q.slot k = .held d f o'

section
variable {c : Camera} {p q r : Pool}

theorem Pool.KeepsOthers.refl (c : Camera) (p : Pool) : p.KeepsOthers c p := ⟨fun _ _ _ _ => rfl, fun _ _ _ o h => ⟨o, h⟩⟩

theorem Pool.KeepsOthers.trans (h : p.KeepsOthers c q) (h' : q.KeepsOthers c r) : p.KeepsOthers c r := by
  refine ⟨fun d hd k hk => ?_, fun k d f o hk => ?_⟩
  · rcases hk with hp | hr
    · have hq := h.slot d hd k (.inl hp)
      exact (h'.slot d hd k (.inl (hq ▸ hp))).trans hq
    · have hr' := h'.slot d hd k (.inr hr)
      exact hr'.trans (h.slot d hd k (.inr (hr' ▸ hr)))
  · obtain ⟨o', hq⟩ := h.held k d f o hk
    exact h'.held k d f o' hq

/-- Writing a slot that is the camera's or FREE, and not HELD, for the camera or to FREE, touches no other camera. -/
theorem Pool.KeepsOthers.setSlot {k : SlotNo} {x : Slot} (hk : ∀ d, d ≠ c → (p.slot k).owner ≠ some d)
    (hx : ∀ d, d ≠ c → x.owner ≠ some d) (hheld : ∀ d f o, p.slot k ≠ .held d f o) : p.KeepsOthers c (p.setSlot k x) := by
  refine ⟨fun d hd j hj => ?_, fun j d f o hj => ⟨o, ?_⟩⟩
  · by_cases hjk : j = k
    · subst hjk
      rw [Pool.slot_setSlot_same] at hj
      exact absurd hj (not_or.mpr ⟨hk d hd, hx d hd⟩)
    · exact p.slot_setSlot_other x hjk
  · rwa [Pool.slot_setSlot_other]
    rintro rfl
    exact hheld d f o hj

/-- A FILLING slot of the camera going FREE or READY touches no other camera. -/
theorem Pool.KeepsOthers.setFilling {k : SlotNo} {x : Slot} (hk : p.slot k = .filling c) (hx : ∀ d, d ≠ c → x.owner ≠ some d) :
    p.KeepsOthers c (p.setSlot k x) :=
  .setSlot (fun d hd h => hd (by rw [hk] at h; exact (Option.some.inj h).symm)) hx (fun _ _ _ h => nomatch hk.symm.trans h)

theorem Pool.KeepsOthers.leave (c : Camera) (p : Pool) : p.KeepsOthers c (p.leave c) := by
  refine ⟨fun d hd k hk => ?_, fun k d f o hk => ?_⟩
  · rw [Pool.slot_leave] at hk ⊢
    refine Slot.leave_of_owner_ne fun hc => ?_
    rcases hk with hk | hk
    · exact hd (Option.some.inj (hk.symm.trans hc))
    · cases hx : p.slot k with
      | free => rw [hx] at hc; cases hc
      | filling e => rw [hx] at hc hk; cases hc; simp [Slot.leave] at hk; cases hk
      | ready e _ _ => rw [hx] at hc hk; cases hc; simp [Slot.leave] at hk; cases hk
      | held e _ _ => rw [hx] at hc hk; cases hc; exact hd (Option.some.inj hk).symm
  · rw [Pool.slot_leave, hk]
    exact ⟨_, rfl⟩

theorem Pool.setSlot_setReady_self (p : Pool) (k : SlotNo) (x : Slot) (c : Camera) :
    (p.setSlot k x).setReady c (p.ready.get c) = p.setSlot k x := by
  unfold Pool.setReady
  rw [Pool.ready_setSlot, PerCamera.set_get]
  rfl

end

section
variable {c : Camera} {t : PartTime} {x y : Pool × Channel} {composing : Prop}

/-- A small step keeps the agreement of the camera's slots and touches no other camera's. -/
theorem IngestStep.slots (h : IngestStep True c t x y) (hx : CameraSlots x.1 c x.2 composing) :
    CameraSlots y.1 c y.2 composing ∧ x.1.KeepsOthers c y.1 := by
  have notHeld {p : Pool} {k : SlotNo} {z : Slot} (hk : p.slot k = z) (hz : ∀ d f o, z ≠ .held d f o) :
      ∀ d f o, p.slot k ≠ .held d f o := fun d f o h => hz d f o (hk.symm.trans h)
  obtain ⟨p, ch⟩ := x
  cases h with
  | count n => exact ⟨hx.channel rfl rfl id, .refl c p⟩
  | skip n hempty => exact ⟨hx.channel rfl (congrArg _ (hempty trivial).symm) id, .refl c p⟩
  | start hin =>
    refine ⟨hx.channel (ch.opened_record) ?_ fun h => (ch.ingests_opened c t).trans h, .refl c p⟩
    obtain ⟨_, _, _, he⟩ := Channel.cadenceStep_frame c t ch
    rw [Channel.opened, he]
  | wake hlost =>
    have hwoken : (ch.woken.opened c t).ingests = true := (ch.woken.ingests_opened c t).trans rfl
    refine ⟨hx.channel (ch.woken.opened_record) ?_ fun _ => hwoken, .refl c p⟩
    obtain ⟨_, _, _, he⟩ := Channel.cadenceStep_frame c t ch.woken
    rw [Channel.opened, he]
    rfl
  | fill k number hin hempty hlist hfree =>
    have hready : p.setSlot k (.filling c) = (p.setSlot k (.filling c)).setReady c (p.ready.get c) :=
      (p.setSlot_setReady_self k _ c).symm
    refine ⟨?_, .setSlot (fun d _ h => by rw [hfree] at h; cases h) (fun d hd h => hd (Option.some.inj h).symm)
      (notHeld hfree fun _ _ _ => nofun)⟩
    rw [hready]
    refine hx.fill hlist hin (hempty trivial) hx.once (fun j => ?_) number
    refine (and_iff_left_of_imp fun hj hjk => ?_).symm
    obtain ⟨_, _, hr⟩ := (hx.ready j).mp hj
    cases (hjk ▸ hr : p.slot k = _).symm.trans hfree
  | overwrite k rest number hin hempty hready =>
    obtain ⟨g, a, hk⟩ := (hx.ready k).mp (by rw [hready]; exact List.mem_cons_self)
    have honce := hx.once
    rw [hready, List.nodup_cons] at honce
    have hlist := hx.owned k (by rw [hk]; rfl)
    refine ⟨hx.fill hlist hin (hempty trivial) honce.2 (fun j => ?_) number, ?_⟩
    · rw [hready, List.mem_cons]
      constructor
      · exact fun hj => ⟨.inr hj, fun hjk => honce.1 (hjk ▸ hj)⟩
      · exact fun ⟨hj, hjk⟩ => hj.resolve_left hjk
    · have hkeep : p.KeepsOthers c (p.setSlot k (.filling c)) :=
        .setSlot (fun d hd h => hd (by rw [hk] at h; exact (Option.some.inj h).symm)) (fun d hd h => hd (Option.some.inj h).symm)
          (notHeld hk fun _ _ _ => nofun)
      exact ⟨hkeep.slot, hkeep.held⟩
  | refill f number hin hfill => exact ⟨hx.channel rfl (by rw [hfill]; rfl) id, .refl c p⟩
  | line f n px good hin hfill =>
    have hpool := lineMark_pool ch.record n px good (p, f)
    refine ⟨?_, ?_⟩
    · have hchannel : CameraSlots p c { ch with filling := some (lineMark ch.record n px good (p, f)).2 } composing :=
        hx.channel rfl (by rw [hfill]; exact congrArg some (lineMark_slot ch.record n px good (p, f))) id
      rw [hpool]
      exact hchannel.frame (fun _ _ => rfl) rfl
    · rw [hpool]
      exact ⟨fun _ _ _ _ => rfl, fun _ _ _ o h => ⟨o, h⟩⟩
  | complete f flags hin hfill =>
    obtain ⟨hrecord, hnone, -⟩ := Channel.freezeCheck_afterCompletion c ch (f.completedRecord c ch t flags) f.signature
    have hkeep : p.KeepsOthers c (p.setSlot f.slot (.ready c (f.completedRecord c ch t flags) false)) :=
      .setFilling (hx.slot_of_filling hfill) fun d hd h => hd (Option.some.inj h).symm
    exact ⟨hx.close hfill (.inr ⟨⟨_, _, rfl⟩, rfl⟩) hrecord hnone ((Channel.ingests_freezeCheck c _ _).trans hin),
      hkeep.slot, hkeep.held⟩
  | discard f hin hfill =>
    have hready : p.setSlot f.slot .free = (p.setSlot f.slot .free).setReady c (p.ready.get c) :=
      (p.setSlot_setReady_self f.slot _ c).symm
    refine ⟨?_, .setFilling (hx.slot_of_filling hfill) fun _ _ => by simp [Slot.owner]⟩
    rw [hready]
    exact hx.close hfill (.inl ⟨rfl, rfl⟩) rfl rfl hin
  | halt f hin hfill =>
    have hready : p.setSlot f.slot .free = (p.setSlot f.slot .free).setReady c (p.ready.get c) :=
      (p.setSlot_setReady_self f.slot _ c).symm
    have hfreed : CameraSlots (p.setSlot f.slot .free) c { ch.countDiscard with filling := none } composing :=
      hready ▸ hx.close hfill (.inl ⟨rfl, rfl⟩) rfl rfl hin
    exact ⟨hfreed.leave rfl rfl, .trans (.setFilling (hx.slot_of_filling hfill) fun _ _ => by simp [Slot.owner]) (.leave c _)⟩
  | leave dest => exact ⟨hx.leave rfl rfl, .leave c p⟩
  | enable hoff => exact ⟨hx.channel rfl rfl fun _ => rfl, .refl c p⟩
  | reacquire => exact ⟨hx.leave rfl rfl, .leave c p⟩

theorem Ingest.slots (h : Ingest True c t x y) (hx : CameraSlots x.1 c x.2 composing) :
    CameraSlots y.1 c y.2 composing ∧ x.1.KeepsOthers c y.1 := by
  induction h with
  | refl => exact ⟨hx, .refl c _⟩
  | tail _ hstep ih =>
    obtain ⟨hy, hkeep⟩ := ih
    obtain ⟨hz, hkeep'⟩ := hstep.slots hy
    exact ⟨hz, hkeep.trans hkeep'⟩

end

/-- An event of one camera keeps the slots in agreement, and every HELD slot HELD. -/
theorem State.Ingested.slots {s s' : State} {c : Camera} (h : s.Ingested True c s') (hs : s.SlotsAgree) :
    s'.SlotsAgree ∧ ∀ k d f o, s.pool.slot k = .held d f o → ∃ o', s'.pool.slot k = .held d f o' := by
  have honly := h.onlyCamera_self
  obtain ⟨x, ks, hx, rfl⟩ := h
  rw [State.slotsAgree_iff] at hs ⊢
  obtain ⟨hcamera, hdisjoint⟩ := hs
  obtain ⟨hy, hkeep⟩ := hx.slots (hcamera c)
  have hrecord (d : Camera) : ((s.cameraUpdate c x ks).channel d).record = (s.channel d).record := by
    by_cases hd : d = c
    · exact hd ▸ honly.record
    · rw [honly.channels d hd]
  refine ⟨⟨fun d => ?_, fun d e k hd he => hdisjoint d e k (hrecord d ▸ hd) (hrecord e ▸ he)⟩, hkeep.held⟩
  by_cases hd : d = c
  · subst hd
    rw [State.cameraUpdate_channel]
    exact hy
  · rw [honly.channels d hd]
    exact (hcamera d).frame (hkeep.slot d hd) (honly.ready d hd)

end Sys2Proof.Machine
end

section
/-!
PROOFS. The hold of an output frame start, camera by camera (R39 to R42).
-/
namespace Sys2Proof.Machine

/-! ## The slots while a frame is composed or not -/

/-- The slots agree, with HELD slots where `composing` holds. -/
structure State.SlotsWhile (composing : Prop) (s : State) : Prop where
  cameras : ∀ c, CameraSlots s.pool c (s.channel c) composing
  disjoint : s.ListsDisjoint

theorem State.SlotsAgree.slots {s : State} (h : s.SlotsAgree) : s.SlotsWhile s.Composing :=
  ⟨(s.slotsAgree_iff.mp h).1, (s.slotsAgree_iff.mp h).2⟩

theorem State.SlotsWhile.agree {s : State} {composing : Prop} (h : s.SlotsWhile composing) (hc : composing → s.Composing) :
    s.SlotsAgree :=
  s.slotsAgree_iff.mpr ⟨fun c =>
    { owned := (h.cameras c).owned
      filling := (h.cameras c).filling
      ready := (h.cameras c).ready
      once := (h.cameras c).once
      held := (h.cameras c).held
      composed := fun k f o hk => hc ((h.cameras c).composed k f o hk)
      orphaned := (h.cameras c).orphaned
      service := (h.cameras c).service }, h.disjoint⟩

/-- Without a HELD slot the agreement holds whether a frame is composed or not. -/
theorem State.SlotsWhile.of_none_held {s : State} {composing composing' : Prop} (h : s.SlotsWhile composing)
    (hnone : ∀ k c f o, s.pool.slot k ≠ .held c f o) : s.SlotsWhile composing' :=
  ⟨fun c =>
    { owned := (h.cameras c).owned
      filling := (h.cameras c).filling
      ready := (h.cameras c).ready
      once := (h.cameras c).once
      held := (h.cameras c).held
      composed := fun k f o hk => absurd hk (hnone k c f o)
      orphaned := (h.cameras c).orphaned
      service := (h.cameras c).service }, h.disjoint⟩

/-! ## AGED marks (R39) -/

theorem Slot.age_held_iff (now : PartTime) (x : Slot) (c : Camera) (f : FrameRecord) (o : Bool) :
    x.age now = .held c f o ↔ x = .held c f o := by
  cases x <;> simp [Slot.age]

theorem Slot.age_filling_iff (now : PartTime) (x : Slot) (c : Camera) : x.age now = .filling c ↔ x = .filling c := by
  cases x <;> simp [Slot.age]

theorem Slot.age_owner (now : PartTime) (x : Slot) : (x.age now).owner = x.owner := by
  cases x <;> rfl

theorem Slot.age_ready_iff (now : PartTime) (x : Slot) (c : Camera) (f : FrameRecord) (b : Bool) :
    x.age now = .ready c f b ↔ ∃ a, x = .ready c f a ∧ b = (a || decide (5000000 < elapsed now f.completedAt)) := by
  cases x with
  | ready d g a =>
    simp only [Slot.age, Slot.ready.injEq]
    constructor
    · rintro ⟨rfl, rfl, rfl⟩
      exact ⟨a, ⟨rfl, rfl, rfl⟩, rfl⟩
    · rintro ⟨a', ⟨rfl, rfl, rfl⟩, rfl⟩
      exact ⟨rfl, rfl, rfl⟩
  | _ => simp [Slot.age]

theorem Pool.slot_markAged (p : Pool) (now : PartTime) (k : SlotNo) : (p.markAged now).slot k = (p.slot k).age now :=
  p.slot_mapSlots _ k

theorem CameraSlots.markAged {p : Pool} {c : Camera} {ch : Channel} {composing : Prop} (h : CameraSlots p c ch composing)
    (now : PartTime) : CameraSlots (p.markAged now) c ch composing := by
  refine ⟨fun k hk => h.owned k ?_, fun k => ?_, fun k => (h.ready k).trans ?_, h.once, fun j k f g a b hj hk => ?_,
    fun k f o hk => ?_, fun k f hk => ?_, h.service⟩
  · rwa [Pool.slot_markAged, Slot.age_owner] at hk
  · rw [Pool.slot_markAged, Slot.age_filling_iff]
    exact h.filling k
  · simp only [Pool.slot_markAged, Slot.age_ready_iff]
    exact ⟨fun ⟨f, a, hk⟩ => ⟨f, _, a, hk, rfl⟩, fun ⟨f, _, a, hk, _⟩ => ⟨f, a, hk⟩⟩
  · rw [Pool.slot_markAged, Slot.age_held_iff] at hj hk
    exact h.held j k f g a b hj hk
  · rw [Pool.slot_markAged, Slot.age_held_iff] at hk
    exact h.composed k f o hk
  · rw [Pool.slot_markAged, Slot.age_held_iff] at hk
    exact h.orphaned k f hk

/-! ## One camera's hold (R40 to R42) -/

theorem Pool.freeSlots_cons (p : Pool) (k : SlotNo) (l : List SlotNo) : p.freeSlots (k :: l) = (p.setSlot k .free).freeSlots l := rfl

theorem Pool.slot_freeSlots (p : Pool) (l : List SlotNo) (j : SlotNo) :
    (p.freeSlots l).slot j = if j ∈ l then .free else p.slot j := by
  induction l generalizing p with
  | nil => simp [Pool.freeSlots]
  | cons k l ih =>
    rw [Pool.freeSlots_cons, ih, Pool.slot_setSlot]
    by_cases hk : j = k <;> by_cases hl : j ∈ l <;> simp [hk, hl]

/-- Freeing slots changes the slots alone. -/
theorem Pool.freeSlots_frame (p : Pool) (l : List SlotNo) :
    (p.freeSlots l).ready = p.ready ∧ (p.freeSlots l).pixels = p.pixels ∧ (p.freeSlots l).snapshot = p.snapshot := by
  induction l generalizing p with
  | nil => exact ⟨rfl, rfl, rfl⟩
  | cons k l ih =>
    rw [Pool.freeSlots_cons]
    exact ih (p.setSlot k .free)

theorem Channel.serves_iff (ch : Channel) :
    ch.serves = true ↔ ch.state = .live ∨ ch.state = .degraded ∧ ch.reasons = ⟨true, false⟩ := by
  unfold Channel.serves
  cases ch.state <;> simp

theorem Channel.ingests_of_serves {ch : Channel} (h : ch.serves = true) : ch.ingests = true := by
  rw [Channel.ingests_iff]
  rcases ch.serves_iff.mp h with h | ⟨h, -⟩
  · exact .inr (.inl h)
  · exact .inr (.inr h)

section
variable {s : State} {c : Camera} {composing : Prop}

/-- The frame that would be held for a camera, read off its ready list (R40). -/
theorem State.usableFrame_eq_some (h : CameraSlots s.pool c (s.channel c) composing) (k : SlotNo) (f : FrameRecord) :
    s.usableFrame c = some (k, f) ↔ (s.channel c).serves = true ∧ (s.pool.ready.get c).getLast? = some k ∧
      s.pool.slot k = .ready c f false ∧ elapsed s.partTime f.completedAt ≤ (s.channel c).record.staleLimit * 1000 := by
  have hfresh : s.pool.freshFrame s.partTime c (s.channel c).record.staleLimit = some (k, f) ↔
      (s.pool.ready.get c).getLast? = some k ∧ s.pool.slot k = .ready c f false ∧
        elapsed s.partTime f.completedAt ≤ (s.channel c).record.staleLimit * 1000 := by
    unfold Pool.freshFrame
    cases hlast : (s.pool.ready.get c).getLast? with
    | none => simp
    | some j =>
      obtain ⟨g, a, hj⟩ := (h.ready j).mp (List.mem_of_getLast? hlast)
      dsimp only
      rw [hj]
      dsimp only
      constructor
      · intro hsome
        split_ifs at hsome with hcond
        cases hsome
        exact ⟨rfl, hj.trans (by rw [hcond.1]), hcond.2⟩
      · rintro ⟨hjk, hk, hle⟩
        cases hjk
        cases hj.symm.trans hk
        rw [if_pos ⟨rfl, hle⟩]
  unfold State.usableFrame
  split_ifs with hserves
  · exact hfresh.trans (and_iff_right hserves).symm
  · exact iff_of_false nofun fun hh => hserves hh.1

/-- What a camera's hold does where it is not usable. -/
theorem State.holdCamera_unusable (h : s.usableFrame c = none) :
    s.holdCamera c = s.setPool { s.pool with snapshot := s.pool.snapshot.set c none } := by
  rw [State.holdCamera, h]

/-- The pool after a camera's newest frame is held and its older ones are superseded (R41, R42). -/
def Pool.heldFor (p : Pool) (c : Camera) (k : SlotNo) (f : FrameRecord) (shot : Shot) : Pool :=
  let held := ((p.freeSlots (p.ready.get c).dropLast).setSlot k (.held c f false)).setReady c []
  { held with snapshot := held.snapshot.set c (some shot) }

theorem State.holdCamera_usable {k : SlotNo} {f : FrameRecord} (h : s.usableFrame c = some (k, f)) :
    s.holdCamera c = (s.setPool (s.pool.heldFor c k f (shotOf k f (s.channel c).record))).setChannel c
      { s.channel c with counters := { (s.channel c).counters with
        superseded := raise (s.channel c).counters.superseded (s.pool.ready.get c).dropLast.length } } := by
  rw [State.holdCamera, h]
  rfl

end

section
variable {p : Pool} {c : Camera} {ch : Channel} {composing : Prop} {k : SlotNo} {f : FrameRecord} {shot : Shot}

theorem Pool.slot_heldFor (p : Pool) (c : Camera) (k j : SlotNo) (f : FrameRecord) (shot : Shot) :
    (p.heldFor c k f shot).slot j =
      if j = k then .held c f false else if j ∈ (p.ready.get c).dropLast then .free else p.slot j := by
  have h : (p.heldFor c k f shot).slot j = ((p.freeSlots (p.ready.get c).dropLast).setSlot k (.held c f false)).slot j := rfl
  rw [h, Pool.slot_setSlot, Pool.slot_freeSlots]

theorem Pool.ready_heldFor (p : Pool) (c d : Camera) (k : SlotNo) (f : FrameRecord) (shot : Shot) :
    (p.heldFor c k f shot).ready.get d = if d = c then [] else p.ready.get d := by
  have h : (p.heldFor c k f shot).ready = (p.freeSlots (p.ready.get c).dropLast).ready.set c [] := rfl
  rw [h, (p.freeSlots_frame _).1]
  split_ifs with hd
  · rw [hd, PerCamera.get_set_same]
  · rw [PerCamera.get_set_other _ _ hd]

theorem Pool.snapshot_heldFor (p : Pool) (c d : Camera) (k : SlotNo) (f : FrameRecord) (shot : Shot) :
    (p.heldFor c k f shot).snapshot.get d = if d = c then some shot else p.snapshot.get d := by
  have h : (p.heldFor c k f shot).snapshot = (p.freeSlots (p.ready.get c).dropLast).snapshot.set c (some shot) := rfl
  rw [h, (p.freeSlots_frame _).2.2]
  split_ifs with hd
  · rw [hd, PerCamera.get_set_same]
  · rw [PerCamera.get_set_other _ _ hd]

theorem Pool.pixels_heldFor (p : Pool) (c : Camera) (k : SlotNo) (f : FrameRecord) (shot : Shot) :
    (p.heldFor c k f shot).pixels = p.pixels := (p.freeSlots_frame _).2.1

/-- The ready list of a camera, read by its newest entry and the older ones. -/
theorem mem_of_getLast?_eq {l : List SlotNo} {k j : SlotNo} (h : l.getLast? = some k) : j ∈ l ↔ j ∈ l.dropLast ∨ j = k := by
  obtain ⟨l', rfl⟩ := List.getLast?_eq_some_iff.mp h
  simp

theorem CameraSlots.heldFor (h : CameraSlots p c ch composing) (hlast : (p.ready.get c).getLast? = some k)
    (hnone : ∀ j g o, p.slot j ≠ .held c g o) (hin : ch.ingests = true) (shot : Shot) :
    CameraSlots (p.heldFor c k f shot) c ch True := by
  have hmem (j : SlotNo) := mem_of_getLast?_eq (j := j) hlast
  have hother {j : SlotNo} (hj : j ∉ p.ready.get c) : (p.heldFor c k f shot).slot j = p.slot j := by
    rw [hmem, not_or] at hj
    rw [Pool.slot_heldFor, if_neg hj.2, if_neg hj.1]
  have hlisted {j : SlotNo} (hj : j ∈ p.ready.get c) :
      (p.heldFor c k f shot).slot j = if j = k then .held c f false else .free := by
    rw [Pool.slot_heldFor]
    split_ifs with hk hd
    · rfl
    · rfl
    · exact absurd ((hmem j).mp hj) (not_or.mpr ⟨hd, hk⟩)
  have hback {j : SlotNo} {x : Slot} (hx : x.owner = some c) (hj : (p.heldFor c k f shot).slot j = x) :
      j = k ∧ x = .held c f false ∨ j ∉ p.ready.get c ∧ p.slot j = x := by
    by_cases hm : j ∈ p.ready.get c
    · rw [hlisted hm] at hj
      split_ifs at hj with hk
      · exact .inl ⟨hk, hj.symm⟩
      · cases hj
        cases hx
    · exact .inr ⟨hm, (hother hm).symm.trans hj⟩
  have hempty : (p.heldFor c k f shot).ready.get c = [] := by rw [Pool.ready_heldFor, if_pos rfl]
  have howned : k ∈ ch.record.slotList := by
    obtain ⟨g, a, hk⟩ := (h.ready k).mp ((hmem k).mpr (.inr rfl))
    exact h.owned k (by rw [hk]; rfl)
  refine ⟨fun j hj => ?_, fun j => ?_, fun j => ?_, hempty ▸ List.nodup_nil, fun i j g g' a b hi hj => ?_, fun _ _ _ _ => trivial,
    fun _ _ _ => hin, fun hout => absurd (hin.symm.trans hout) (by decide)⟩
  · rcases hback hj rfl with ⟨rfl, -⟩ | ⟨-, hp⟩
    · exact howned
    · exact h.owned j (hp ▸ hj)
  · rw [← h.filling]
    constructor
    · intro hj
      rcases hback rfl hj with ⟨-, hx⟩ | ⟨-, hp⟩
      · cases hx
      · exact hp
    · intro hj
      rw [hother fun hm => ?_, hj]
      obtain ⟨_, _, hr⟩ := (h.ready j).mp hm
      cases hj.symm.trans hr
  · rw [hempty]
    refine iff_of_false List.not_mem_nil fun ⟨g, a, hj⟩ => ?_
    rcases hback rfl hj with ⟨-, hx⟩ | ⟨hm, hp⟩
    · cases hx
    · exact hm ((h.ready j).mpr ⟨g, a, hp⟩)
  · rcases hback rfl hi with ⟨rfl, -⟩ | ⟨-, hp⟩
    · rcases hback rfl hj with ⟨rfl, -⟩ | ⟨-, hp⟩
      · rfl
      · exact absurd hp (hnone j g' b)
    · exact absurd hp (hnone i g a)

end

/-! ## The cameras in turn -/

/-- Between two states camera `c`'s channel, ready list and snapshot entry stand, and so does every slot that is its own or FREE. -/
structure State.SameFor (c : Camera) (s s' : State) : Prop where
  partTime : s'.partTime = s.partTime
  channel : s'.channel c = s.channel c
  ready : s'.pool.ready.get c = s.pool.ready.get c
  snapshot : s'.pool.snapshot.get c = s.pool.snapshot.get c
  slots : ∀ k, (∀ d, d ≠ c → (s.pool.slot k).owner ≠ some d) → s'.pool.slot k = s.pool.slot k

theorem State.SameFor.refl (c : Camera) (s : State) : s.SameFor c s := ⟨rfl, rfl, rfl, rfl, fun _ _ => rfl⟩

theorem State.SameFor.trans {c : Camera} {s s1 s2 : State} (h : s.SameFor c s1) (h' : s1.SameFor c s2) : s.SameFor c s2 := by
  refine ⟨h'.partTime.trans h.partTime, h'.channel.trans h.channel, h'.ready.trans h.ready, h'.snapshot.trans h.snapshot,
    fun k hk => ?_⟩
  have hs := h.slots k hk
  exact (h'.slots k (hs ▸ hk)).trans hs

section
variable {s : State} {c : Camera} {composing : Prop}

/-- A camera's hold leaves every other camera alone. -/
theorem State.holdCamera_sameFor (h : CameraSlots s.pool c (s.channel c) composing) {d : Camera} (hd : d ≠ c) :
    s.SameFor d (s.holdCamera c) := by
  cases hu : s.usableFrame c with
  | none =>
    rw [State.holdCamera_unusable hu]
    exact ⟨rfl, rfl, rfl, PerCamera.get_set_other _ _ hd, fun _ _ => rfl⟩
  | some x =>
    obtain ⟨k, f⟩ := x
    obtain ⟨-, hlast, hk, -⟩ := (State.usableFrame_eq_some h k f).mp hu
    rw [State.holdCamera_usable hu]
    refine ⟨rfl, State.channel_setChannel_other _ _ hd, ?_, ?_, fun j hj => ?_⟩
    · exact (Pool.ready_heldFor ..).trans (if_neg hd)
    · exact (Pool.snapshot_heldFor ..).trans (if_neg hd)
    · refine (Pool.slot_heldFor ..).trans ?_
      have hnot : j ∉ s.pool.ready.get c := fun hm => by
        obtain ⟨_, _, hr⟩ := (h.ready j).mp hm
        exact hj c hd.symm (by rw [hr]; rfl)
      rw [mem_of_getLast?_eq hlast, not_or] at hnot
      rw [if_neg hnot.2, if_neg hnot.1]

/-- What another camera's agreement needs stands in a state that is the same for it. -/
theorem CameraSlots.sameFor {s' : State} (h : CameraSlots s.pool c (s.channel c) composing) (same : s.SameFor c s')
    (hback : ∀ k, (s'.pool.slot k).owner = some c → s'.pool.slot k = s.pool.slot k) :
    CameraSlots s'.pool c (s'.channel c) composing := by
  rw [same.channel]
  refine h.frame (fun k hk => ?_) same.ready
  rcases hk with hk | hk
  · refine same.slots k fun d hd hd' => hd (Option.some.inj (hd'.symm.trans hk))
  · exact hback k hk

theorem State.holdCamera_record (s : State) (c d : Camera) : ((s.holdCamera c).channel d).record = (s.channel d).record := by
  obtain ⟨p, n, h⟩ := s.holdCamera_eq c
  rw [h]
  by_cases hd : d = c
  · subst hd
    rw [State.channel_setChannel_same]
  · rw [State.channel_setChannel_other _ _ hd]
    rfl

/-- A camera's hold gives no slot to any other camera, and makes no slot HELD but for itself. -/
theorem State.holdCamera_owner (s : State) (c : Camera) (k : SlotNo) :
    (s.holdCamera c).pool.slot k = s.pool.slot k ∨ ((s.holdCamera c).pool.slot k).owner = none ∨
      ((s.holdCamera c).pool.slot k).owner = some c := by
  cases hu : s.usableFrame c with
  | none =>
    rw [State.holdCamera_unusable hu]
    exact .inl rfl
  | some x =>
    rw [State.holdCamera_usable hu]
    have h : (s.pool.heldFor c x.1 x.2 (shotOf x.1 x.2 (s.channel c).record)).slot k = _ := Pool.slot_heldFor ..
    refine (?_ : (s.pool.heldFor c x.1 x.2 (shotOf x.1 x.2 (s.channel c).record)).slot k = s.pool.slot k ∨ _ ∨ _)
    rw [State.setChannel_pool, State.setPool_pool, h]
    split_ifs
    · exact .inr (.inr rfl)
    · exact .inr (.inl rfl)
    · exact .inl rfl

theorem State.holdCamera_slots (hs : s.SlotsWhile True) (hnone : ∀ k f o, s.pool.slot k ≠ .held c f o) :
    (s.holdCamera c).SlotsWhile True := by
  refine ⟨fun d => ?_, fun d e k hd he => hs.disjoint d e k ?_ ?_⟩
  · by_cases hd : d = c
    · subst hd
      cases hu : s.usableFrame d with
      | none =>
        rw [State.holdCamera_unusable hu]
        exact (hs.cameras d).frame (fun _ _ => rfl) rfl
      | some x =>
        obtain ⟨k, f⟩ := x
        obtain ⟨hserves, hlast, -, -⟩ := (State.usableFrame_eq_some (hs.cameras d) k f).mp hu
        rw [State.holdCamera_usable hu, State.channel_setChannel_same]
        exact ((hs.cameras d).heldFor hlast hnone (Channel.ingests_of_serves hserves) _).channel rfl rfl id
    · refine (hs.cameras d).sameFor (State.holdCamera_sameFor (hs.cameras c) hd) fun k hk => ?_
      rcases s.holdCamera_owner c k with h | h | h
      · exact h
      · cases h.symm.trans hk
      · exact absurd (Option.some.inj (hk.symm.trans h)) hd
  · rwa [State.holdCamera_record] at hd
  · rwa [State.holdCamera_record] at he

/-- The cameras of a list in turn: each finds its own slots as they stood, and leaves them to no later one. -/
theorem State.holdList (l : List Camera) (hl : l.Nodup) (hs : s.SlotsWhile True)
    (hnone : ∀ c ∈ l, ∀ k f o, s.pool.slot k ≠ .held c f o) :
    (l.foldl State.holdCamera s).SlotsWhile True ∧
      (∀ d, d ∉ l → s.SameFor d (l.foldl State.holdCamera s)) ∧
      ∀ c ∈ l, ∃ s1, s1.SlotsWhile True ∧ s.SameFor c s1 ∧ (s1.holdCamera c).SameFor c (l.foldl State.holdCamera s) := by
  induction l generalizing s with
  | nil => exact ⟨hs, fun d _ => .refl d s, nofun⟩
  | cons c l ih =>
    obtain ⟨hc, hl⟩ := List.nodup_cons.mp hl
    have hheld := State.holdCamera_slots hs (hnone c List.mem_cons_self)
    have hlater : ∀ d ∈ l, ∀ k f o, (s.holdCamera c).pool.slot k ≠ .held d f o := fun d hd k f o hk => by
      rcases s.holdCamera_owner c k with h | h | h
      · exact hnone d (List.mem_cons_of_mem _ hd) k f o (h ▸ hk)
      · rw [hk] at h
        cases h
      · rw [hk] at h
        exact hc (Option.some.inj h ▸ hd)
    obtain ⟨hfold, hother, hturn⟩ := ih hl hheld hlater
    refine ⟨hfold, fun d hd => ?_, fun d hd => ?_⟩
    · obtain ⟨hdc, hdl⟩ := not_or.mp (List.mem_cons.not.mp hd)
      exact (State.holdCamera_sameFor (hs.cameras c) hdc).trans (hother d hdl)
    · rcases List.mem_cons.mp hd with rfl | hd
      · exact ⟨s, hs, .refl d s, hother d hc⟩
      · obtain ⟨s1, hs1, hbefore, hafter⟩ := hturn d hd
        have hdc : d ≠ c := fun e => hc (e ▸ hd)
        exact ⟨s1, hs1, (State.holdCamera_sameFor (hs.cameras c) hdc).trans hbefore, hafter⟩

theorem State.holdCamera_pixels (s : State) (c : Camera) : (s.holdCamera c).pool.pixels = s.pool.pixels := by
  cases hu : s.usableFrame c with
  | none => rw [State.holdCamera_unusable hu]; rfl
  | some x =>
    rw [State.holdCamera_usable hu]
    exact Pool.pixels_heldFor ..

theorem State.holdAll_pixels (s : State) : s.holdAll.pool.pixels = s.pool.pixels := by
  suffices h : ∀ (l : List Camera) (s : State), (l.foldl State.holdCamera s).pool.pixels = s.pool.pixels from h allCameras s
  intro l
  induction l with
  | nil => exact fun _ => rfl
  | cons c l ih => exact fun s => (ih _).trans (s.holdCamera_pixels c)

end

end Sys2Proof.Machine
end

section
/-!
PROOFS. Every step keeps the slots in agreement, makes no HELD slot FILLING, and writes no pixel of a slot that is not FILLING (R5, R23,
R29 to R32, R34, R35, R38, R41).
-/
namespace Sys2Proof.Machine

/-! ## Settling and clearing -/

theorem CameraSlots.settled {p q : Pool} {c : Camera} {ch : Channel} {composing composing' : Prop}
    (h : CameraSlots p c ch composing) (hs : p.Settled q) : CameraSlots q c ch composing' := by
  have hback {k : SlotNo} {x : Slot} (hx : x.owner = some c) (hk : q.slot k = x) :
      p.slot k = x ∧ (∀ f o, x ≠ .held c f o) ∨
        ∃ f, p.slot k = .held c f false ∧ p.ready.get c = [] ∧ x = .ready c f false ∧ q.ready.get c = [k] := by
    by_cases hheld : ∃ d f o, p.slot k = .held d f o
    · obtain ⟨d, f, o, hheld⟩ := hheld
      by_cases hfree : o = true ∨ p.ready.get d ≠ []
      · cases (hs.freed k d f o hheld hfree).symm.trans hk
        cases hx
      · obtain ⟨ho, hready⟩ := not_or.mp hfree
        rw [Bool.not_eq_true] at ho
        subst ho
        obtain ⟨hslot, hlist⟩ := hs.retained k d f hheld (not_not.mp hready)
        cases hslot.symm.trans hk
        cases hx
        exact .inr ⟨f, hheld, not_not.mp hready, rfl, hlist⟩
    · simp only [not_exists] at hheld
      have hsame := (hs.others k hheld).symm.trans hk
      exact .inl ⟨hsame, fun f o hxo => hheld c f o (hsame.trans hxo)⟩
  have hno {k : SlotNo} {f : FrameRecord} {o : Bool} (hk : q.slot k = .held c f o) : False := by
    rcases hback rfl hk with ⟨-, hne⟩ | ⟨_, -, -, hx, -⟩
    · exact hne f o rfl
    · cases hx
  have howner (k : SlotNo) (hk : (q.slot k).owner = some c) : (p.slot k).owner = some c := by
    rcases hback hk rfl with ⟨hp, -⟩ | ⟨f, hp, -⟩
    · exact hp ▸ hk
    · rw [hp]
      rfl
  have hfilling (k : SlotNo) : q.slot k = .filling c ↔ p.slot k = .filling c := by
    constructor
    · intro hk
      rcases hback rfl hk with ⟨hp, -⟩ | ⟨_, -, -, hx, -⟩
      · exact hp
      · cases hx
    · intro hk
      exact (hs.others k fun d f o hh => by cases hk.symm.trans hh).trans hk
  by_cases hretained : ∃ k f, p.slot k = .held c f false ∧ p.ready.get c = []
  · obtain ⟨k, f, hheld, hready⟩ := hretained
    obtain ⟨hslot, hlist⟩ := hs.retained k c f hheld hready
    refine ⟨fun j hj => h.owned j (howner j hj), fun j => (hfilling j).trans (h.filling j), fun j => ?_, hlist ▸ List.nodup_singleton k,
      fun _ _ _ _ _ _ hj => (hno hj).elim, fun _ _ _ hj => (hno hj).elim, fun _ _ hj => (hno hj).elim, fun hout => ?_⟩
    · rw [hlist, List.mem_singleton]
      constructor
      · rintro rfl
        exact ⟨f, false, hslot⟩
      · rintro ⟨g, a, hj⟩
        rcases hback rfl hj with ⟨hp, -⟩ | ⟨g', hp, -⟩
        · have hm := (h.ready j).mpr ⟨g, a, hp⟩
          rw [hready] at hm
          cases hm
        · exact h.held j k g' f _ _ hp hheld
    · exact absurd ((h.orphaned k f hheld).symm.trans hout) (by decide)
  · simp only [not_exists, not_and] at hretained
    have hlist : q.ready.get c = p.ready.get c := hs.lists c fun k f hk => hretained k f hk
    refine ⟨fun j hj => h.owned j (howner j hj), fun j => (hfilling j).trans (h.filling j), fun j => ?_, hlist ▸ h.once,
      fun _ _ _ _ _ _ hj => (hno hj).elim, fun _ _ _ hj => (hno hj).elim, fun _ _ hj => (hno hj).elim, hlist ▸ h.service⟩
    rw [hlist, h.ready]
    constructor
    · rintro ⟨g, a, hj⟩
      exact ⟨g, a, (hs.others j fun d f o hh => by cases hj.symm.trans hh).trans hj⟩
    · rintro ⟨g, a, hj⟩
      rcases hback rfl hj with ⟨hp, -⟩ | ⟨g', hp, hempty, -⟩
      · exact ⟨g, a, hp⟩
      · exact absurd hempty (hretained j g' hp)

theorem State.SlotsAgree.holdsOneEach {s : State} (h : s.SlotsAgree) : s.pool.HoldsOneEach := h.held

/-- A settled slot that was HELD is FREE or READY (R44). -/
theorem Pool.Settled.not_filling {p q : Pool} (hs : p.Settled q) {k : SlotNo} {c : Camera} {f : FrameRecord} {o : Bool}
    (hk : p.slot k = .held c f o) (d : Camera) : q.slot k ≠ .filling d := by
  by_cases hfree : o = true ∨ p.ready.get c ≠ []
  · rw [hs.freed k c f o hk hfree]
    exact nofun
  · obtain ⟨ho, hready⟩ := not_or.mp hfree
    rw [Bool.not_eq_true] at ho
    subst ho
    rw [(hs.retained k c f hk (not_not.mp hready)).1]
    exact nofun

theorem Pool.slot_initial (px : Table (List Pixel)) (k : SlotNo) : (Pool.initial px).slot k = .free := rfl

theorem CameraSlots.initial (px : Table (List Pixel)) (c : Camera) {ch : Channel} (hnone : ch.filling = none) (composing : Prop) :
    CameraSlots (.initial px) c ch composing :=
  .of_unowned (fun k h => by rw [Pool.slot_initial] at h; cases h) (PerCamera.get_build (fun _ => []) c) hnone

/-! ## What a step makes of the slots -/

/-- The slots agree after a step, and no HELD slot has become FILLING. -/
structure State.SlotsKept (s s' : State) : Prop where
  agree : s'.SlotsAgree
  held : ∀ k c f o, s.pool.slot k = .held c f o → ∀ d, s'.pool.slot k ≠ .filling d

section
variable {s s' : State}

/-- A step that leaves the pool, what the channels say of their slots, and whether a frame is composed. -/
theorem State.SlotsAgree.kept (h : s.SlotsAgree) (pool : s'.pool = s.pool) (compositor : s'.compositor = s.compositor)
    (channel : ∀ c, (s'.channel c).record = (s.channel c).record ∧ (s'.channel c).filling = (s.channel c).filling ∧
      (s'.channel c).ingests = (s.channel c).ingests) : s.SlotsKept s' := by
  have hold := h.slots
  refine ⟨State.SlotsWhile.agree (composing := s.Composing) ⟨fun c => ?_, fun c d k hc hd => ?_⟩ ?_, fun k c f o hk d hd => ?_⟩
  · obtain ⟨hrecord, hfilling, hingests⟩ := channel c
    rw [pool]
    exact (hold.cameras c).channel hrecord (congrArg _ hfilling) fun hin => hingests.trans hin
  · rw [(channel c).1] at hc
    rw [(channel d).1] at hd
    exact hold.disjoint c d k hc hd
  · rintro ⟨v, p, m, r, hc⟩
    exact ⟨v, p, m, r, compositor.trans hc⟩
  · rw [pool, hk] at hd
    cases hd

/-- A step that leaves the pool, the channels and the compositor. -/
theorem State.SlotsAgree.kept_of_same (h : s.SlotsAgree) (pool : s'.pool = s.pool) (compositor : s'.compositor = s.compositor)
    (channels : s'.channels = s.channels) : s.SlotsKept s' := by
  have hc (c : Camera) : s'.channel c = s.channel c := congrArg (fun p => PerCamera.get p c) channels
  exact h.kept pool compositor fun c => by rw [hc]; exact ⟨rfl, rfl, rfl⟩

theorem State.Ingested.kept {t : PartTime} {c : Camera} (h : (s.atTime t).Ingested True c s') (hs : s.SlotsAgree) :
    s.SlotsKept s' := by
  have htime : (s.atTime t).SlotsAgree := (hs.kept_of_same (s' := s.atTime t) rfl rfl rfl).agree
  obtain ⟨hagree, hheld⟩ := h.slots htime
  refine ⟨hagree, fun k d f o hk e he => ?_⟩
  obtain ⟨o', hk'⟩ := hheld k d f o hk
  cases hk'.symm.trans he

/-- Outside the active period no slot is HELD (R41, R91). -/
theorem State.SlotsAgree.none_held (hs : s.SlotsAgree) (hidle : s.compositor = .idle) (k : SlotNo) (c : Camera) (f : FrameRecord)
    (o : Bool) : s.pool.slot k ≠ .held c f o := fun hk => by
  obtain ⟨v, p, m, r, hc⟩ := hs.composed k c f o hk
  cases hidle.symm.trans hc

/-- The held slots settled, the channels as they were, and nothing composed. -/
theorem State.SlotsAgree.kept_of_settle (h : s.SlotsAgree) (pool : s'.pool = s.pool.settle) (channels : s'.channels = s.channels) :
    s.SlotsKept s' := by
  have hsettled := settlingFreesOrRetains s.pool h.holdsOneEach
  have hc (c : Camera) : s'.channel c = s.channel c := congrArg (fun p => PerCamera.get p c) channels
  refine ⟨State.SlotsWhile.agree (composing := False) ⟨fun c => ?_, fun c d k hkc hkd => ?_⟩ False.elim, fun k c f o hk d => ?_⟩
  · rw [pool, hc]
    exact (h.slots.cameras c).settled hsettled
  · rw [hc] at hkc hkd
    exact h.disjoint c d k hkc hkd
  · rw [pool]
    exact hsettled.not_filling hk d

/-- Every slot FREE and no frame filling. -/
theorem State.SlotsKept.of_cleared {px : Table (List Pixel)} (pool : s'.pool = .initial px)
    (filling : ∀ c, (s'.channel c).filling = none) (disjoint : s'.ListsDisjoint) : s.SlotsKept s' := by
  refine ⟨State.SlotsWhile.agree (composing := False) ⟨fun c => ?_, disjoint⟩ False.elim, fun k c f o _ d => ?_⟩
  · rw [pool]
    exact .initial px c (filling c) False
  · rw [pool, Pool.slot_initial]
    exact nofun

/-- The lists of the default records are disjoint (R2). -/
theorem initial_listsDisjoint (c d : Camera) (k : SlotNo) (hc : k ∈ (CameraRecord.initial c).slotList)
    (hd : k ∈ (CameraRecord.initial d).slotList) : c = d := by
  revert c d k
  decide

theorem State.SlotsAgree.powerOn (s : State) : s.SlotsKept s.powerOn := by
  have hc (c : Camera) : s.powerOn.channel c = .initial c := PerCamera.get_build Channel.initial c
  refine .of_cleared (px := s.pool.pixels) rfl (fun c => by rw [hc]; rfl) fun c d k hkc hkd => ?_
  rw [hc] at hkc hkd
  exact initial_listsDisjoint c d k hkc hkd

theorem State.softRestart_pool (s : State) : s.softRestart.pool = .initial s.pool.pixels := by
  unfold State.softRestart
  split_ifs
  · obtain ⟨_, _, he⟩ := s.stopLines_eq
    rw [he]
    rfl
  · rfl

theorem State.SlotsAgree.softRestart (h : s.SlotsAgree) : s.SlotsKept s.softRestart := by
  refine .of_cleared s.softRestart_pool (fun c => ?_) fun c d k hkc hkd => ?_
  · rw [s.softRestart_channel]
    rfl
  · rw [s.softRestart_channel] at hkc hkd
    exact h.disjoint c d k hkc hkd

/-! ## The output frame -/

theorem State.SlotsAgree.frameStart (h : s.SlotsAgree) (hcoherent : s.Coherent) : s.SlotsKept s.frameStart := by
  have hidle (hdue : s.startDue = true) : s.compositor = .idle := hcoherent.idle_of_phase fun hactive => by
    rcases (s.startDue_iff.mp hdue).2 with hp | ⟨hp, -⟩ <;> cases hp.symm.trans hactive
  have hopened : s.startDue = true → ∀ composing, s.openFrame.SlotsWhile composing := fun hdue composing => by
    refine State.SlotsWhile.of_none_held (composing := s.Composing)
      ⟨fun c => (h.slots.cameras c).markAged s.partTime, h.disjoint⟩ fun k c f o hk => ?_
    have hk' : (s.pool.markAged s.partTime).slot k = .held c f o := hk
    rw [Pool.slot_markAged, Slot.age_held_iff] at hk'
    exact h.none_held (hidle hdue) k c f o hk'
  have hnone (hdue : s.startDue = true) (k : SlotNo) (c : Camera) (f : FrameRecord) (o : Bool) :
      s.openFrame.pool.slot k ≠ .held c f o := fun hk => ((hopened hdue False).cameras c).composed k f o hk
  rcases s.frameStart_cases with ⟨-, he⟩ | ⟨hdue, hop, he⟩ | ⟨hdue, hop, he⟩
  · rw [he]
    exact h.kept_of_same rfl rfl rfl
  · refine ⟨?_, fun k c f o hk => absurd hk (h.none_held (hidle hdue) k c f o)⟩
    have hafter := hcoherent.frameStart
    rw [he] at hafter ⊢
    obtain ⟨hheld, -, -⟩ := State.holdList allCameras (by decide) (hopened hdue True) fun c _ k f o => hnone hdue k c f o
    obtain ⟨v, hcurrent, -⟩ := Selector.choose_valid (x := { s.selector with
      signals := s.selector.signals.aged s.partTime s.selector.timeouts
      snapshot := some s.openFrame.startSnapshot }) (valid := s.viewValid)
      ((s.viewValid_iff _).mpr (hcoherent.run.default hop))
      (fun v hv => (s.viewValid_iff v).mpr (hcoherent.run.forced v hv)) s.partTime s.openFrame.startSnapshot
    change s.openFrame.choice.1.current = _ at hcurrent
    obtain ⟨n, hcounters, hrun⟩ := s.openFrame.runStart_eq
    change s.openFrame.holdAll.SlotsWhile True at hheld
    have hpool : s.openFrame.runStart.pool = s.openFrame.holdAll.pool := (congrArg State.pool hrun :)
    have hchannel (c : Camera) : s.openFrame.runStart.channel c = s.openFrame.holdAll.channel c := by
      have hc : s.openFrame.runStart.channels = (s.openFrame.withCounters s.openFrame.holdAll.pool n).channels :=
        (congrArg State.channels hrun :)
      rw [← hcounters] at hc
      exact congrArg (fun p => PerCamera.get p c) hc
    refine State.SlotsWhile.agree (composing := True) ⟨fun c => ?_, fun c d k hkc hkd => ?_⟩ fun _ => ?_
    · rw [hpool, hchannel]
      exact hheld.cameras c
    · rw [hchannel] at hkc hkd
      exact hheld.disjoint c d k hkc hkd
    · have hcompositor : s.openFrame.runStart.compositor = s.openFrame.begun s.openFrame.choice.1.current :=
        (congrArg State.compositor hrun :)
      rw [hcurrent] at hcompositor
      exact ⟨v, _, _, _, hcompositor⟩
  · refine ⟨?_, fun k c f o hk => absurd hk (h.none_held (hidle hdue) k c f o)⟩
    have hpool : s.openFrame.configStart.pool = s.openFrame.pool.noSnapshot := rfl
    have hchannels : s.openFrame.configStart.channels = s.openFrame.channels := rfl
    have hchannel (c : Camera) : s.openFrame.configStart.channel c = s.openFrame.channel c :=
      congrArg (fun p => PerCamera.get p c) hchannels
    have hopen := hopened hdue False
    rw [he]
    refine State.SlotsWhile.agree (composing := False) ⟨fun c => ?_, fun c d k hkc hkd => ?_⟩ False.elim
    · rw [hpool, hchannel]
      exact (hopen.cameras c).frame (fun _ _ => rfl) rfl
    · rw [hchannel] at hkc hkd
      exact hopen.disjoint c d k hkc hkd

theorem State.finished_pool (s : State) (sc : Scene) : (s.finished sc).pool = s.pool.settle := by
  rw [State.finished]

theorem State.finished_channels (s : State) (sc : Scene) : (s.finished sc).channels = s.channels := by
  rw [State.finished]

theorem State.SlotsAgree.frameDone (h : s.SlotsAgree) : s.SlotsKept s.frameDone := by
  rcases s.frameDone_cases with ⟨-, he⟩ | ⟨-, -, he⟩ | ⟨-, v, p, m, r, -, he⟩ <;> rw [he]
  · exact h.kept_of_same rfl rfl rfl
  · exact h.kept_of_same rfl rfl rfl
  · have hpool : ((s.sendTo (activeHeight s.output.format)).finished ⟨(s.view v).header, (s.view v).tiles, s.pool⟩).pool =
        s.pool.settle := State.finished_pool (s.sendTo (activeHeight s.output.format)) _
    exact h.kept_of_settle hpool (State.finished_channels (s.sendTo (activeHeight s.output.format)) _)

theorem State.stopLines_pool (s : State) : s.stopLines.pool = s.pool ∧ s.stopLines.compositor = s.compositor := by
  obtain ⟨_, _, h⟩ := s.stopLines_eq
  rw [h]
  exact ⟨rfl, rfl⟩

/-- An abandon settles the slots where a frame is composed, and leaves the channels (R45). -/
theorem State.abandon_pool (s : State) : s.abandon.channels = s.channels ∧
    (s.abandon.pool = s.pool.settle ∨ s.abandon.pool = s.pool ∧ s.abandon.compositor = s.compositor) := by
  rcases s.abandon_cases with ⟨-, he⟩ | ⟨-, he⟩ <;> rw [he]
  · rw [State.setCompositor_channels, State.setOverlay_channels, State.setPool_channels, State.setCompositor_pool,
      State.setOverlay_pool, State.setPool_pool]
    exact ⟨rfl, .inl rfl⟩
  · exact ⟨rfl, .inr ⟨rfl, rfl⟩⟩

theorem State.SlotsAgree.unlock (h : s.SlotsAgree) : s.SlotsKept s.unlock := by
  obtain ⟨hpool, hcompositor⟩ := s.stopLines_pool
  obtain ⟨hchannels, habandon⟩ := s.stopLines.abandon_pool
  unfold State.unlock
  split_ifs
  · generalize s.stopLines.abandon = x at hchannels habandon
    rw [s.stopLines_channels] at hchannels
    rcases habandon with hp | ⟨hp, hc⟩
    · exact h.kept_of_settle (s' := (x.beginAttempt .relock s.output.format).raiseLatch .unlocked) (hpool ▸ hp) hchannels
    · exact h.kept_of_same (s' := (x.beginAttempt .relock s.output.format).raiseLatch .unlocked) (hp.trans hpool)
        (hc.trans hcompositor) hchannels
  · exact h.kept_of_same rfl rfl rfl

/-! ## Requests -/

/-- A record written to an OFF channel none of whose slots is HELD: the camera owns no slot (R3, R32). -/
theorem State.SlotsAgree.writeRecord (h : s.SlotsAgree) {c : Camera} {r : CameraRecord} (hoff : (s.channel c).state = .off)
    (hheld : ∀ k ∈ (s.channel c).record.slotList, ∀ d f o, s.pool.slot k ≠ .held d f o)
    (hconflict : ∀ k ∈ r.slotList, ∀ d, d ≠ c → k ∉ (s.channel d).record.slotList) :
    s.SlotsKept (s.setChannel c { s.channel c with record := r }) := by
  have hold := h.slots
  have hout : (s.channel c).ingests = false := by rw [Channel.ingests, hoff]
  obtain ⟨hready, hfilling⟩ := (hold.cameras c).service hout
  have hunowned : ∀ k, (s.pool.slot k).owner ≠ some c := fun k hk => by
    have hlist := (hold.cameras c).owned k hk
    cases hx : s.pool.slot k with
    | free => rw [hx] at hk; cases hk
    | filling d =>
      rw [hx] at hk
      cases hk
      obtain ⟨f, hf, -⟩ := ((hold.cameras c).filling k).mp hx
      cases hfilling.symm.trans hf
    | ready d f a =>
      rw [hx] at hk
      cases hk
      have hm := ((hold.cameras c).ready k).mpr ⟨f, a, hx⟩
      rw [hready] at hm
      cases hm
    | held d f o => exact hheld k hlist d f o hx
  have hlist (d : Camera) (k : SlotNo) : k ∈ ((s.setChannel c { s.channel c with record := r }).channel d).record.slotList ↔
      if d = c then k ∈ r.slotList else k ∈ (s.channel d).record.slotList := by
    split_ifs with hd
    · subst hd
      rw [State.channel_setChannel_same]
    · rw [State.channel_setChannel_other _ _ hd]
  refine ⟨State.SlotsWhile.agree (composing := s.Composing) ⟨fun d => ?_, fun d e k hkd hke => ?_⟩ id,
    fun k d f o hk e he => by cases hk.symm.trans he⟩
  · by_cases hd : d = c
    · subst hd
      rw [State.channel_setChannel_same]
      exact .of_unowned hunowned hready hfilling
    · rw [State.channel_setChannel_other _ _ hd]
      exact hold.cameras d
  · rw [hlist] at hkd hke
    split_ifs at hkd hke with hd he he
    · exact hd.trans he.symm
    · exact absurd hke (hconflict k hkd e he)
    · exact absurd hkd (hconflict k hke d hd)
    · exact hold.disjoint d e k hkd hke

theorem State.releaseForce_pool (s : State) (v : ViewNo) :
    (s.releaseForce v).pool = s.pool ∧ (s.releaseForce v).compositor = s.compositor := by
  unfold State.releaseForce
  split_ifs <;> exact ⟨rfl, rfl⟩

theorem Effect.slots {m : Message} {a : Answer} (ha : Effect m s a) (h : s.SlotsAgree) : s.SlotsKept a.state := by
  have camera {c : Camera} {x : State} (hx : s.Ingested True c x) : s.SlotsKept x :=
    State.Ingested.kept (t := s.partTime) (s := s) hx h
  cases ha with
  | cameraRecord c r hread hoff hheld hconflict => exact h.writeRecord hoff hheld hconflict
  | openFresh v =>
    obtain ⟨hpool, hcompositor⟩ :=
      (s.setView v { s.view v with state := .loading, headerWritten := false, written := [] }).releaseForce_pool v
    exact h.kept_of_same hpool hcompositor (State.releaseForce_channels (s.setView v _) v)
  | withdraw v =>
    obtain ⟨hpool, hcompositor⟩ := (s.setViewState v .withdrawn).releaseForce_pool v
    exact h.kept_of_same hpool hcompositor (State.releaseForce_channels (s.setViewState v _) v)
  | enable c hoff => exact camera (s.ingested_enableCamera c hoff)
  | disable c => exact camera (s.ingested_disableCamera c)
  | restartCamera c => exact camera (s.ingested_restartCamera c)
  | formatZero => exact h.kept_of_same s.stopLines_pool.1 s.stopLines_pool.2 s.stopLines_channels
  | attempt f => exact h.kept_of_same s.stopLines_pool.1 s.stopLines_pool.2 s.stopLines_channels
  | run =>
    refine h.kept rfl rfl fun c => ?_
    have hc : ((s.setOutput { s.output with opState := .run }).zeroCounters).channel c = { s.channel c with counters := .zero } :=
      State.zeroCounters_channel _ c
    exact hc ▸ ⟨rfl, rfl, rfl⟩
  | restart => exact h.softRestart
  | same | viewHeader | tile | bank | rule | settings | timeouts | zoneRecord | openEdit | validate | pendSwap | swap
  | force | release | takeEvents => exact h.kept_of_same rfl rfl rfl

theorem Answer.settle_pool (a : Answer) (m : Message) : (a.settle m).pool = a.state.pool ∧ (a.settle m).compositor = a.state.compositor := by
  obtain ⟨s, _ | ⟨r, p⟩⟩ := a <;> exact ⟨rfl, rfl⟩

theorem State.SlotsKept.settle {a : Answer} (h : s.SlotsKept a.state) (m : Message) : s.SlotsKept (a.settle m) := by
  obtain ⟨hpool, hcompositor⟩ := a.settle_pool m
  refine ⟨(h.agree.kept_of_same hpool hcompositor (a.settle_channels m)).agree, ?_⟩
  rw [hpool]
  exact h.held

/-! ## Every command -/

theorem Follows.slots (hs : s.SlotsAgree) (hcoherent : s.Coherent) (hchannels : s.ChannelsAgree) (h : Follows s s') :
    s.SlotsKept s' := by
  have timed (t : PartTime) : (s.atTime t).SlotsAgree := (hs.kept_of_same (s' := s.atTime t) rfl rfl rfl).agree
  have timedCoherent (t : PartTime) : (s.atTime t).Coherent := hcoherent.of_same ⟨rfl, rfl, rfl, rfl, rfl, rfl, rfl, rfl, rfl⟩
  have lift {t : PartTime} {x : State} (hx : (s.atTime t).SlotsKept x) : s.SlotsKept x := ⟨hx.agree, hx.held⟩
  cases h with
  | powerOn => exact State.SlotsAgree.powerOn s
  | time t => exact hs.kept_of_same rfl rfl rfl
  | frameOpen t c number =>
    exact ((s.atTime t).ingested_frameOpen c number fun _ => (hchannels c).filling_of_lost).kept hs
  | line t c n samples good => exact ((s.atTime t).ingested_line c n samples good).kept hs
  | frameClose t c claimed => exact ((s.atTime t).ingested_frameClose c claimed).kept hs
  | linkDown t c => exact ((s.atTime t).ingested_linkDown c).kept hs
  | lossExpiry t c => exact ((s.atTime t).ingested_lossExpiry c).kept hs
  | lockFormat t =>
    unfold State.lockFormat
    split_ifs
    · rcases ((s.atTime t).lockIn (s.atTime t).output.format).endFormat_cases .ok with ⟨m, -, h⟩ | ⟨-, h⟩ <;> rw [h] <;>
        exact hs.kept_of_same rfl rfl rfl
    · exact hs.kept_of_same rfl rfl rfl
  | lockRelock t =>
    unfold State.lockRelock
    split_ifs <;> exact hs.kept_of_same rfl rfl rfl
  | expireFormat t =>
    unfold State.expireFormat
    split_ifs
    · rcases (((s.atTime t).lockIn 0).raiseLatch .lockFail).endFormat_cases .lockFail with ⟨m, -, h⟩ | ⟨-, h⟩ <;> rw [h] <;>
        exact hs.kept_of_same rfl rfl rfl
    · exact hs.kept_of_same rfl rfl rfl
  | expireRelock t =>
    unfold State.expireRelock
    split_ifs <;> exact hs.kept_of_same rfl rfl rfl
  | unlock t => exact lift (timed t).unlock
  | holdExpiry t z =>
    unfold State.holdExpiry
    dsimp only
    split_ifs <;> exact hs.kept_of_same rfl rfl rfl
  | frameStart t => exact lift ((timed t).frameStart (timedCoherent t))
  | frameDone t => exact lift (timed t).frameDone
  | blanking t =>
    unfold State.blanking
    split_ifs <;> exact hs.kept_of_same rfl rfl rfl
  | receive t m =>
    unfold State.receive State.signalMessage State.offerRequest
    split_ifs
    · split <;> exact hs.kept_of_same rfl rfl rfl
    all_goals exact hs.kept_of_same rfl rfl rfl
  | malformed t m rest => exact hs.kept_of_same rfl rfl rfl
  | executed row t m rest head idle hrow =>
    have htaken : (s.taken t rest).SlotsAgree := (hs.kept_of_same (s' := s.taken t rest) rfl rfl rfl).agree
    have hkept := ((effect_of_row row m (s.taken t rest) hrow).slots htaken).settle m
    exact ⟨hkept.agree, hkept.held⟩

end

end Sys2Proof.Machine
end

section
/-!
PROOFS. No step writes a pixel of a slot that is not FILLING (R29, R38), and the hold of an output frame start in RUN (R40 to R42).
-/
namespace Sys2Proof.Machine

/-! ## A line written in one slot (R29) -/

theorem Pool.row_writeLine (p : Pool) (k j : SlotNo) (n l : Nat) (px : List Pixel) :
    (p.writeLine k n px).row j l =
      if rowNumber j l = rowNumber k n then px ++ (p.row k n).drop px.length else p.row j l :=
  Table.read_write [] p.pixels (rowNumber k n) (rowNumber j l) _

/-- Lines within a slot's room have rows of their own. -/
theorem rowNumber_inj {j k : SlotNo} {l n : Nat} (hl : l < 1080) (hn : n < 1080) :
    rowNumber j l = rowNumber k n ↔ j = k ∧ l = n := by
  unfold rowNumber
  constructor
  · intro h
    have hjk : j.val = k.val := by omega
    exact ⟨Fin.ext hjk, by omega⟩
  · rintro ⟨rfl, rfl⟩
    rfl

theorem fillLine_row_other {width n l : Nat} {px : List Pixel} {x : Pool × FillingFrame} {j : SlotNo} (hj : j ≠ x.2.slot)
    (hn : n < 1080) (hl : l < 1080) : (fillLine width n px x).1.row j l = x.1.row j l := by
  rw [fillLine, Pool.row_writeLine, if_neg fun h => hj ((rowNumber_inj hl hn).mp h).1]

theorem fillMissing_row_other {width count n l : Nat} {x : Pool × FillingFrame} {j : SlotNo} (hj : j ≠ x.2.slot)
    (hn : n + count ≤ 1080) (hl : l < 1080) : (fillMissing width count n x).1.row j l = x.1.row j l := by
  induction count generalizing n x with
  | zero => rfl
  | succ count ih =>
    rw [fillMissing, ih (by rwa [fillLine_slot]) (by omega), fillLine_row_other hj (by omega) hl]

/-- A LINE mark writes no line of another slot. -/
theorem lineMark_row_other {r : CameraRecord} {n l : Nat} {px : List Pixel} {good : Bool} {x : Pool × FillingFrame} {j : SlotNo}
    (hheight : r.height ≤ 1080) (hj : j ≠ x.2.slot) (hl : l < 1080) : (lineMark r n px good x).1.row j l = x.1.row j l := by
  unfold lineMark takeLine
  dsimp only
  split_ifs with hlong horder
  · rfl
  · rfl
  all_goals
    have hn : n < 1080 := by omega
    have hfill : x.2.expected + (n - x.2.expected) ≤ 1080 := by omega
    rw [fillLine_row_other _ hn hl, fillMissing_row_other _ hfill hl]
    · exact hj
    · rw [fillMissing_slot]
      exact hj

/-! ## No other event writes a pixel -/

section
variable (s : State) (c : Camera)

theorem State.startFrame_pixels (number : BitVec 16) : (s.startFrame c number).pool.pixels = s.pool.pixels := by
  rcases s.startFrame_cases c number with ⟨k, -, -, -, he⟩ | ⟨-, ⟨k, rest, -, he⟩ | ⟨-, he⟩⟩ <;> rw [he] <;> rfl

theorem State.gapOpen_pixels (f : FillingFrame) (number : BitVec 16) : (s.gapOpen c f number).pool.pixels = s.pool.pixels := by
  unfold State.gapOpen
  dsimp only
  split
  · rfl
  · rw [State.startFrame_pixels]
    rfl
  · rfl

theorem State.frameOpen_pixels (number : BitVec 16) : (s.frameOpen c number).pool.pixels = s.pool.pixels := by
  unfold State.frameOpen State.wakeOpen
  dsimp only
  split_ifs
  · split
    · exact s.gapOpen_pixels c _ number
    · rw [State.startFrame_pixels]
      rfl
  · rw [State.startFrame_pixels]
    rfl
  · rfl

theorem State.frameClose_pixels (claimed : BitVec 16) : (s.frameClose c claimed).pool.pixels = s.pool.pixels := by
  unfold State.frameClose
  dsimp only
  split
  · split <;> rfl
  · rfl

theorem State.linkDown_pixels : (s.linkDown c).pool.pixels = s.pool.pixels := by
  unfold State.linkDown
  split_ifs <;> rfl

theorem State.lossExpiry_pixels : (s.lossExpiry c).pool.pixels = s.pool.pixels := by
  unfold State.lossExpiry
  split_ifs <;> rfl

theorem Pool.settle_pixels (p : Pool) : p.settle.pixels = p.pixels := by
  suffices h : ∀ (l : List SlotNo) (p : Pool), (l.foldl Pool.settleSlot p).pixels = p.pixels from h allSlots p
  intro l
  induction l with
  | nil => exact fun _ => rfl
  | cons k l ih => exact fun p => (ih _).trans (p.settleSlot_frame k).2.2.1

theorem State.frameStart_pixels : s.frameStart.pool.pixels = s.pool.pixels := by
  rcases s.frameStart_cases with ⟨-, he⟩ | ⟨-, -, he⟩ | ⟨-, -, he⟩ <;> rw [he]
  · obtain ⟨n, -, hrun⟩ := s.openFrame.runStart_eq
    have hpool : s.openFrame.runStart.pool = s.openFrame.holdAll.pool := (congrArg State.pool hrun :)
    rw [hpool, State.holdAll_pixels]
    rfl
  · rfl

theorem State.frameDone_pixels : s.frameDone.pool.pixels = s.pool.pixels := by
  rcases s.frameDone_cases with ⟨-, he⟩ | ⟨-, -, he⟩ | ⟨-, v, p, m, r, -, he⟩ <;> rw [he]
  · rfl
  · rw [State.finished_pool, Pool.settle_pixels]
    rfl

theorem State.unlock_pixels : s.unlock.pool.pixels = s.pool.pixels := by
  have habandon : s.stopLines.abandon.pool.pixels = s.pool.pixels := by
    rcases s.stopLines.abandon_pool.2 with h | ⟨h, -⟩ <;> rw [h]
    · rw [Pool.settle_pixels, s.stopLines_pool.1]
    · rw [s.stopLines_pool.1]
  unfold State.unlock
  split_ifs
  · exact habandon
  · rfl

end

theorem Effect.pixels {m : Message} {s : State} {a : Answer} (ha : Effect m s a) : a.state.pool.pixels = s.pool.pixels := by
  cases ha with
  | openFresh v => exact congrArg Pool.pixels (State.releaseForce_pool (s.setView v _) v).1
  | withdraw v => exact congrArg Pool.pixels (State.releaseForce_pool (s.setViewState v .withdrawn) v).1
  | disable c =>
    show (s.disableCamera c).pool.pixels = _
    unfold State.disableCamera
    split_ifs <;> rfl
  | formatZero => exact congrArg Pool.pixels s.stopLines_pool.1
  | attempt f => exact congrArg Pool.pixels s.stopLines_pool.1
  | restart => exact (congrArg Pool.pixels s.softRestart_pool :)
  | cameraRecord | enable | restartCamera | same | viewHeader | tile | bank | rule | settings | timeouts | zoneRecord | openEdit
  | validate | pendSwap | swap | force | release | takeEvents | run => rfl

/-- Every command but a LINE mark leaves the pixels (R29). -/
theorem Follows.pixels {s s' : State} (h : Follows s s') :
    s'.pool.pixels = s.pool.pixels ∨ ∃ t c n samples good, s' = (s.atTime t).line c n samples good := by
  cases h with
  | line t c n samples good => exact .inr ⟨t, c, n, samples, good, rfl⟩
  | powerOn => exact .inl rfl
  | time t => exact .inl rfl
  | frameOpen t c number => exact .inl ((s.atTime t).frameOpen_pixels c number)
  | frameClose t c claimed => exact .inl ((s.atTime t).frameClose_pixels c claimed)
  | linkDown t c => exact .inl ((s.atTime t).linkDown_pixels c)
  | lossExpiry t c => exact .inl ((s.atTime t).lossExpiry_pixels c)
  | lockFormat t =>
    unfold State.lockFormat
    split_ifs
    · rcases ((s.atTime t).lockIn (s.atTime t).output.format).endFormat_cases .ok with ⟨m, -, h⟩ | ⟨-, h⟩ <;> rw [h] <;> exact .inl rfl
    · exact .inl rfl
  | lockRelock t =>
    unfold State.lockRelock
    split_ifs <;> exact .inl rfl
  | expireFormat t =>
    unfold State.expireFormat
    split_ifs
    · rcases (((s.atTime t).lockIn 0).raiseLatch .lockFail).endFormat_cases .lockFail with ⟨m, -, h⟩ | ⟨-, h⟩ <;> rw [h] <;>
        exact .inl rfl
    · exact .inl rfl
  | expireRelock t =>
    unfold State.expireRelock
    split_ifs <;> exact .inl rfl
  | unlock t => exact .inl (s.atTime t).unlock_pixels
  | holdExpiry t z =>
    unfold State.holdExpiry
    dsimp only
    split_ifs <;> exact .inl rfl
  | frameStart t => exact .inl (s.atTime t).frameStart_pixels
  | frameDone t => exact .inl (s.atTime t).frameDone_pixels
  | blanking t =>
    unfold State.blanking
    split_ifs <;> exact .inl rfl
  | receive t m =>
    unfold State.receive State.signalMessage State.offerRequest
    split_ifs
    · split <;> exact .inl rfl
    all_goals exact .inl rfl
  | malformed t m rest => exact .inl rfl
  | executed row t m rest head idle hrow =>
    refine .inl ((congrArg Pool.pixels (Answer.settle_pool _ m).1).trans ?_)
    exact (effect_of_row row m (s.taken t rest) hrow).pixels

theorem Pool.pixel_of_row {p q : Pool} {k : SlotNo} {l : Nat} (h : q.row k l = p.row k l) (column : Nat) :
    q.pixel k column l = p.pixel k column l := by
  rw [Pool.pixel, Pool.pixel, h]

/-- No slot but a FILLING one has a pixel written (R29). -/
theorem Follows.pixel {s s' : State} (h : Follows s s') (hs : s.SlotsAgree) (hrecords : s.RecordsInRange) {k : SlotNo}
    (hk : ∀ c, s.pool.slot k ≠ .filling c) (column : Nat) {l : Nat} (hl : l < 1080) :
    s'.pool.pixel k column l = s.pool.pixel k column l := by
  refine Pool.pixel_of_row ?_ column
  rcases h.pixels with hp | ⟨t, c, n, samples, good, rfl⟩
  · rw [Pool.row, Pool.row, hp]
  · unfold State.line
    dsimp only
    split
    · rename_i f hin hfill
      have hslot : s.pool.slot f.slot = .filling c := (hs.filling f.slot c).mpr ⟨f, hfill, rfl⟩
      refine lineMark_row_other (x := (s.pool, f)) (hrecords.cameras c).height.2 ?_ hl
      rintro rfl
      exact hk c hslot
    · rfl

/-- What a step from a state makes of its slots does not depend on its queue of commands. -/
theorem State.SlotsKept.of_pending {s s' : State} {l : List Instr} (h : (s.setPending l).SlotsKept s') : s.SlotsKept s' :=
  ⟨h.agree, h.held⟩

/-- Settles O57: a step idles or is one of the commands, each of which keeps the slots. -/
theorem stepKeepsTheSlotsInAgreement : Obligations.StepKeepsTheSlotsInAgreement := by
  intro s s' hcoherent hchannels hslots hstep
  rcases step_cases hstep with rfl | ⟨rest, hf⟩
  · have hsame : s'.SlotsKept s' := hslots.kept_of_same rfl rfl rfl
    exact ⟨hslots, hsame.held, fun _ _ _ _ _ _ => rfl⟩
  · have hpending : (s.setPending rest).SlotsAgree := (hslots.kept_of_same (s' := s.setPending rest) rfl rfl rfl).agree
    have hcoherent' : (s.setPending rest).Coherent := hcoherent.of_same ⟨rfl, rfl, rfl, rfl, rfl, rfl, rfl, rfl, rfl⟩
    have hkept := (hf.slots hpending hcoherent' hchannels).of_pending
    refine ⟨hkept.agree, hkept.held, fun hrecords k hk column l hl => hf.pixel hpending ?_ hk column hl⟩
    exact ⟨hrecords.cameras, hrecords.headers, hrecords.tiles, hrecords.bankA, hrecords.bankB, hrecords.selector, hrecords.zones⟩

end Sys2Proof.Machine
end

section
/-!
PROOFS. An output frame start in CONFIG and in RUN (R39 to R42, R51, R116, R117, R122, R125, R143, R145, R156, R164).
-/
namespace Sys2Proof.Machine

/-! ## The command at its time (R49, R51) -/

section
variable {s : State} {t : PartTime}

theorem exec_outputFrameStart (t : PartTime) (s : State) : exec (.outputFrameStart t) s = .next (s.atTime t).frameStart := rfl

section
variable (hclock : s.output.clock = .locked)
  (hphase : s.output.phase = .none ∨
    s.output.phase = .blanked ∧ startInterval s.output.format s.output.groupPos ≤ (t - s.output.startedAt).toNat)
include hclock hphase

theorem exec_outputFrameStart_run (hop : s.output.opState = .run) :
    exec (.outputFrameStart t) s = .next (s.atTime t).openFrame.runStart := by
  have hdue : (s.atTime t).startDue = true := (s.atTime t).startDue_iff.mpr ⟨hclock, hphase⟩
  rw [exec_outputFrameStart, State.frameStart, if_pos hdue, if_pos]
  exact s.isRun_iff.mpr hop

theorem exec_outputFrameStart_config (hop : s.output.opState = .config) :
    exec (.outputFrameStart t) s = .next (s.atTime t).openFrame.configStart := by
  have hdue : (s.atTime t).startDue = true := (s.atTime t).startDue_iff.mpr ⟨hclock, hphase⟩
  rw [exec_outputFrameStart, State.frameStart, if_pos hdue, if_neg]
  exact fun hr => nomatch hop.symm.trans (s.isRun_iff.mp hr)

end

end

/-- The unit at a start in CONFIG (R49, R51, R52). -/
theorem OutputUnit.started_of_config {o : OutputUnit} (t : PartTime) (hop : o.opState = .config) :
    o.started t = { o with
      frameCounter := o.frameCounter + 1
      phase := .active
      frameKind := .config
      startedAt := t
      groupPos := if o.phase = .none then 0 else o.groupPos + 1 } := by
  rw [OutputUnit.started, hop]

/-- The unit at a start in RUN (R49, R51, R52). -/
theorem OutputUnit.started_of_run {o : OutputUnit} (t : PartTime) (hop : o.opState = .run) :
    o.started t = { o with
      frameCounter := o.frameCounter + 1
      phase := .active
      frameKind := .run
      startedAt := t
      groupPos := if o.phase = .none then 0 else o.groupPos + 1 } := by
  rw [OutputUnit.started, hop]

/-- Settles O17: the blocks' work of a start in CONFIG, field by field. -/
theorem configFrameStartShowsNothing : Obligations.ConfigFrameStartShowsNothing := by
  intro s t hclock hop hphase
  refine ⟨(s.pool.markAged t).noSnapshot, ?_, fun k => ?_, rfl, rfl, fun c => PerCamera.get_build (fun _ => none) c⟩
  · rw [exec_outputFrameStart_config hclock hphase hop]
    generalize hp : s.pool.markAged t = p
    have hopen : (s.atTime t).openFrame =
        (((s.atTime t).setOutput (s.output.started t)).setPool p).setPort { s.port with lines := [] } := by
      rw [← hp]
      rfl
    rw [hopen, OutputUnit.started_of_config t hop]
    rfl
  · refine (s.pool.slot_markAged t k).trans ?_
    cases s.pool.slot k <;> rfl

/-! ## The hold (R40 to R42) -/

section
variable {s : State} {t : PartTime}

/-- The slots at the opening of a frame, each READY one with its AGED mark (R39). -/
theorem State.openFrame_slot (s : State) (k : SlotNo) : s.openFrame.pool.slot k = (s.pool.slot k).age s.partTime :=
  s.pool.slot_markAged s.partTime k

theorem State.SlotsWhile.openFrame {composing : Prop} (h : s.SlotsWhile composing) : s.openFrame.SlotsWhile composing :=
  ⟨fun c => (h.cameras c).markAged s.partTime, h.disjoint⟩

/-- The frame a camera's turn would hold is the usable one of R40, read before the start. -/
theorem State.usable_iff {s1 : State} {c : Camera} (hopen : (s.atTime t).openFrame.SlotsWhile True) (hs1 : s1.SlotsWhile True)
    (same : (s.atTime t).openFrame.SameFor c s1) (k : SlotNo) (f : FrameRecord) :
    s1.usableFrame c = some (k, f) ↔ s.Usable t c k f := by
  have hchannel : s1.channel c = s.channel c := same.channel
  have hready : s1.pool.ready.get c = s.pool.ready.get c := same.ready
  have hslot (hlast : (s.pool.ready.get c).getLast? = some k) :
      s1.pool.slot k = .ready c f false ↔ s.pool.slot k = .ready c f false ∧ elapsed t f.completedAt ≤ 5000000 := by
    have hm : k ∈ (s.atTime t).openFrame.pool.ready.get c := List.mem_of_getLast? hlast
    obtain ⟨g, a, hk⟩ := ((hopen.cameras c).ready k).mp hm
    have hsame := same.slots k fun d hd h => hd (by rw [hk] at h; exact (Option.some.inj h).symm)
    rw [hsame, State.openFrame_slot, Slot.age_ready_iff]
    change (∃ a, s.pool.slot k = _ ∧ false = (a || decide (5000000 < elapsed t f.completedAt))) ↔ _
    constructor
    · rintro ⟨a, ha, hfalse⟩
      obtain ⟨rfl, hyoung⟩ : a = false ∧ decide (5000000 < elapsed t f.completedAt) = false := by simpa using hfalse.symm
      exact ⟨ha, by simpa using hyoung⟩
    · rintro ⟨hk, hyoung⟩
      exact ⟨false, hk, by simpa using hyoung⟩
  rw [State.usableFrame_eq_some (hs1.cameras c), hchannel, hready, Channel.serves_iff, show s1.partTime = t from same.partTime]
  constructor
  · rintro ⟨hserves, hlast, hk, hstale⟩
    obtain ⟨hfresh, hyoung⟩ := (hslot hlast).mp hk
    exact ⟨hserves, hlast, hfresh, hyoung, hstale⟩
  · rintro ⟨hserves, hlast, hfresh, hyoung, hstale⟩
    exact ⟨hserves, hlast, (hslot hlast).mpr ⟨hfresh, hyoung⟩, hstale⟩

/-- A start in RUN leaves the pool and the channels as the hold left them. -/
theorem State.runStart_pool (s : State) : s.runStart.pool = s.holdAll.pool ∧ ∀ c, s.runStart.channel c = s.holdAll.channel c := by
  obtain ⟨n, hheld, hrun⟩ := s.runStart_eq
  refine ⟨(congrArg State.pool hrun :), fun c => ?_⟩
  have hchannels : s.runStart.channels = (s.withCounters s.holdAll.pool n).channels := (congrArg State.channels hrun :)
  rw [← hheld] at hchannels
  exact congrArg (fun p => PerCamera.get p c) hchannels

end

/-- Settles O18: each camera's turn finds its own slots as they stood at the opening of the frame, and no later turn touches them. -/
theorem runFrameStartHoldsTheNewestFrames : Obligations.RunFrameStartHoldsTheNewestFrames := by
  intro s t hclock hop hphase hslots hnone
  have hwhile : s.SlotsWhile True := hslots.slots.of_none_held hnone
  have hopen : (s.atTime t).openFrame.SlotsWhile True :=
    State.SlotsWhile.openFrame (s := s.atTime t) ⟨hwhile.cameras, hwhile.disjoint⟩
  have hopenNone : ∀ k c f o, (s.atTime t).openFrame.pool.slot k ≠ .held c f o := fun k c f o hk => by
    rw [State.openFrame_slot, Slot.age_held_iff] at hk
    exact hnone k c f o hk
  obtain ⟨-, -, hturns⟩ := State.holdList allCameras (by decide) hopen fun c _ k f o => hopenNone k c f o
  obtain ⟨hpool, hchannel⟩ := (s.atTime t).openFrame.runStart_pool
  refine ⟨_, exec_outputFrameStart_run hclock hphase hop, ?_, fun c => ?_⟩
  · rw [hpool, State.holdAll_pixels]
    rfl
  obtain ⟨s1, hs1, hbefore, hafter⟩ := hturns c (mem_allCameras c)
  change (s1.holdCamera c).SameFor c (s.atTime t).openFrame.holdAll at hafter
  have husable := State.usable_iff hopen hs1 hbefore
  have hs1channel : s1.channel c = s.channel c := hbefore.channel
  have hs1ready : s1.pool.ready.get c = s.pool.ready.get c := hbefore.ready
  rw [hpool, hchannel, hafter.channel, hafter.ready, hafter.snapshot]
  refine ⟨fun k f hu => ?_, fun hu => ?_⟩
  · have hsome := (husable k f).mpr hu
    have hheld := State.holdCamera_usable hsome
    have hslot (j : SlotNo) : (s1.holdCamera c).pool.slot j =
        if j = k then .held c f false else if j ∈ (s.pool.ready.get c).dropLast then .free else s1.pool.slot j := by
      rw [hheld, ← hs1ready]
      exact Pool.slot_heldFor ..
    have hk : (s1.holdCamera c).pool.slot k = .held c f false := (hslot k).trans (if_pos rfl)
    refine ⟨(hafter.slots k fun d hd h => ?_).trans hk, ?_, fun j hj => ?_, ?_, ?_⟩
    · rw [hk] at h
      exact hd (Option.some.inj h).symm
    · rw [hheld]
      exact (Pool.ready_heldFor ..).trans (if_pos rfl)
    · have hjk : j ≠ k := by
        rintro rfl
        have honce := (hslots.slots.cameras c).once
        obtain ⟨l, hl⟩ := List.getLast?_eq_some_iff.mp hu.newest
        rw [hl, List.dropLast_concat] at hj
        rw [hl, List.nodup_append] at honce
        exact honce.2.2 j hj j (List.mem_singleton_self j) rfl
      have hfree : (s1.holdCamera c).pool.slot j = .free := by rw [hslot, if_neg hjk, if_pos hj]
      refine (hafter.slots j fun d hd h => ?_).trans hfree
      rw [hfree] at h
      cases h
    · rw [hheld, State.channel_setChannel_same, hs1channel, hs1ready, List.length_dropLast]
    · rw [hheld, hs1channel]
      exact (Pool.snapshot_heldFor ..).trans (if_pos rfl)
  · have hunusable : s1.usableFrame c = none := by
      by_contra hne
      obtain ⟨⟨k, f⟩, hsome⟩ := Option.ne_none_iff_exists'.mp hne
      exact hu ⟨k, f, (husable k f).mp hsome⟩
    have hheld := State.holdCamera_unusable hunusable
    refine ⟨?_, ?_, ?_, fun k f a hk => ?_⟩
    · rw [hheld]
      exact PerCamera.get_set_same _ c _
    · rw [hheld]
      exact hs1ready
    · rw [hheld]
      exact hs1channel
    · have hopened : (s.atTime t).openFrame.pool.slot k = .ready c f (a || decide (5000000 < elapsed t f.completedAt)) := by
        rw [State.openFrame_slot]
        exact congrArg (Slot.age t) hk
      have hmine (x : Slot) (hx : x.owner = some c) : ∀ d, d ≠ c → x.owner ≠ some d := fun d hd h =>
        hd (Option.some.inj (h.symm.trans hx))
      have h1 : s1.pool.slot k = _ := (hbefore.slots k (hmine _ (by rw [hopened]; rfl))).trans hopened
      have h2 : (s1.holdCamera c).pool.slot k = .ready c f (a || decide (5000000 < elapsed t f.completedAt)) := by
        rw [hheld]
        exact h1
      exact (hafter.slots k (hmine _ (by rw [h2]; rfl))).trans h2

end Sys2Proof.Machine
end

section
/-!
PROOFS. The candidate, the current view and the rest of an output frame start in RUN (R51, R116, R117, R122 to R125, R143, R145, R146,
R156, R164).
-/
namespace Sys2Proof.Machine

/-! ## The candidate (R122) -/

section
variable {valid : ViewNo → Bool} {x : SignalSnapshot} {d : ViewNo}

/-- A rule is ON and its conditions hold (R121). -/
abbrev Rule.holds (r : Rule) (x : SignalSnapshot) : Prop := r.enable = true ∧ r.passes x = true

theorem findCandidate_match {r : Rule} {rest : List Rule} (hr : r.holds x) (hvalid : valid r.target = true) :
    findCandidate valid x d (r :: rest) = ⟨r.target, r.immediate, false⟩ := by
  rw [findCandidate, if_pos hr, if_pos hvalid]

theorem findCandidate_skip {r : Rule} {rest : List Rule} (hr : r.holds x) (hvalid : valid r.target = false) :
    findCandidate valid x d (r :: rest) = { findCandidate valid x d rest with skipped := true } := by
  rw [findCandidate, if_pos hr, if_neg (by simp [hvalid])]

theorem findCandidate_pass {r : Rule} {rest : List Rule} (hr : ¬ r.holds x) :
    findCandidate valid x d (r :: rest) = findCandidate valid x d rest := by
  rw [findCandidate, if_neg hr]

/-- Rules that hold with no VALID target are passed over: what comes after them decides, and they are reported skipped. -/
theorem findCandidate_append {before : List Rule} (hbefore : ∀ q ∈ before, q.holds x → valid q.target = false) (l : List Rule) :
    (findCandidate valid x d (before ++ l)).view = (findCandidate valid x d l).view ∧
      (findCandidate valid x d (before ++ l)).immediate = (findCandidate valid x d l).immediate ∧
      ((findCandidate valid x d (before ++ l)).skipped = true ↔
        (findCandidate valid x d l).skipped = true ∨ ∃ q ∈ before, q.holds x) := by
  induction before with
  | nil => simp
  | cons q before ih =>
    obtain ⟨hview, himmediate, hskipped⟩ := ih fun q' hq => hbefore q' (List.mem_cons_of_mem q hq)
    rw [List.cons_append]
    by_cases hq : q.holds x
    · rw [findCandidate_skip hq (hbefore q List.mem_cons_self hq)]
      exact ⟨hview, himmediate, iff_of_true rfl (.inr ⟨q, List.mem_cons_self, hq⟩)⟩
    · rw [findCandidate_pass hq]
      refine ⟨hview, himmediate, hskipped.trans ?_⟩
      simp [hq]

/-- A rule is reported skipped where it holds with no VALID target and no matching rule comes before it (R122, R125). -/
theorem findCandidate_skipped_iff (l : List Rule) :
    (findCandidate valid x d l).skipped = true ↔ ∃ (i : Nat) (r : Rule), l[i]? = some r ∧ r.holds x ∧ valid r.target = false ∧
      ∀ (j : Nat) (q : Rule), j < i → l[j]? = some q → ¬ (q.holds x ∧ valid q.target = true) := by
  induction l with
  | nil => simp [findCandidate]
  | cons r rest ih =>
    by_cases hr : r.holds x
    · cases hvalid : valid r.target with
      | true =>
        rw [findCandidate_match hr hvalid]
        refine iff_of_false nofun ?_
        rintro ⟨i, q, hq, hholds, hinvalid, hfirst⟩
        cases i with
        | zero =>
          cases hq
          cases hvalid.symm.trans hinvalid
        | succ i => exact hfirst 0 r (Nat.succ_pos i) rfl ⟨hr, hvalid⟩
      | false =>
        rw [findCandidate_skip hr hvalid]
        exact iff_of_true rfl ⟨0, r, rfl, hr, hvalid, fun j q hj => absurd hj (Nat.not_lt_zero j)⟩
    · rw [findCandidate_pass hr, ih]
      constructor
      · rintro ⟨i, q, hq, hholds, hinvalid, hfirst⟩
        refine ⟨i + 1, q, hq, hholds, hinvalid, fun j q' hj hq' => ?_⟩
        cases j with
        | zero =>
          cases hq'
          exact fun h => hr h.1
        | succ j => exact hfirst j q' (Nat.lt_of_succ_lt_succ hj) hq'
      · rintro ⟨i, q, hq, hholds, hinvalid, hfirst⟩
        cases i with
        | zero =>
          cases hq
          exact absurd hholds hr
        | succ i => exact ⟨i, q, hq, hholds, hinvalid, fun j q' hj hq' => hfirst (j + 1) q' (Nat.succ_lt_succ hj) hq'⟩

end

/-- Settles O47: the rules before the first match are passed over. -/
theorem candidateIsTheFirstMatch : Obligations.CandidateIsTheFirstMatch := by
  intro valid x d rules holds found
  refine ⟨fun before r rest hrules hr hvalid hbefore => ?_, fun hnone => ?_⟩
  · obtain ⟨hview, himmediate, hskipped⟩ := findCandidate_append (d := d) (x := x) hbefore (r :: rest)
    rw [findCandidate_match hr hvalid] at hview himmediate hskipped
    change (findCandidate valid x d rules).view = _ ∧ (findCandidate valid x d rules).immediate = _ ∧
      ((findCandidate valid x d rules).skipped = true ↔ _)
    rw [hrules]
    exact ⟨hview, himmediate, hskipped.trans (by simp; rfl)⟩
  · obtain ⟨hview, himmediate, hskipped⟩ := findCandidate_append (d := d) (x := x) hnone []
    rw [List.append_nil] at hview himmediate hskipped
    exact ⟨hview, himmediate, hskipped.trans (by simp [findCandidate]; rfl)⟩

/-! ## The current view (R123, R124) -/

/-- The selector with the current view fixed at once (R123). -/
def Selector.switched (x : Selector) (v : ViewNo) : Selector := { x with current := some v, candidate := none }

section
variable {x : Selector} {now : PartTime} {valid : ViewNo → Bool} {found : Candidate}

theorem Selector.chooseFrom_none (hcur : x.current = none) : x.chooseFrom now valid found = x.switched found.view := by
  rw [Selector.chooseFrom, hcur]
  rfl

theorem Selector.chooseFrom_some {v : ViewNo} (hcur : x.current = some v) : x.chooseFrom now valid found =
    if valid v = false then x.switched found.view
    else if found.view = v then { x with candidate := none }
    else if found.immediate then x.switched found.view
    else x.dwellTest now found.view := by
  rw [Selector.chooseFrom, hcur]
  rfl

/-- The dwell test from the time the candidate has been pending since (R124). -/
theorem Selector.dwellTest_of_since {v : ViewNo} {since : PartTime} (h : (match x.candidate with
      | some p => if p.view = v then p.since else now
      | none => now) = since) :
    x.dwellTest now v =
      if x.dwell * 1000 ≤ elapsed now since then x.switched v else { x with candidate := some ⟨v, since⟩ } := by
  subst h
  rfl

theorem Selector.dwellTest_pending {v : ViewNo} {since : PartTime} (h : x.candidate = some ⟨v, since⟩) :
    x.dwellTest now v = if x.dwell * 1000 ≤ elapsed now since then x.switched v else x := by
  have hself : ({ x with candidate := some ⟨v, since⟩ } : Selector) = x := by rw [← h]
  rw [Selector.dwellTest_of_since (since := since), hself]
  rw [h]
  exact if_pos rfl

theorem Selector.dwellTest_fresh {v : ViewNo} (h : ∀ since, x.candidate ≠ some ⟨v, since⟩) :
    x.dwellTest now v = if x.dwell = 0 then x.switched v else { x with candidate := some ⟨v, now⟩ } := by
  have hself : elapsed now now = 0 := by simp [elapsed]
  have hzero : x.dwell * 1000 ≤ elapsed now now ↔ x.dwell = 0 := by omega
  rw [Selector.dwellTest_of_since (since := now)]
  · simp only [hzero]
  · split
    · rename_i p hp
      refine if_neg fun hv => h p.since ?_
      rw [hp, ← hv]
    · rfl

end

/-- Settles O48: the branches of `Selector.choose`, of `Selector.chooseFrom` and of the dwell test. -/
theorem currentViewIsFixedByTheCases : Obligations.CurrentViewIsFixedByTheCases := by
  intro x now valid snap found after atOnce
  have hfree (hforced : x.forced = none) : after = (x.chooseFrom now valid found, found.skipped) := by
    change x.choose now valid snap = _
    rw [Selector.choose, hforced]
  refine ⟨fun f hf => ?_, fun hforced => ?_⟩
  · change x.choose now valid snap = _
    rw [Selector.choose, hf]
  rw [hfree hforced]
  refine ⟨rfl, Selector.chooseFrom_none, fun v hv => ?_⟩
  have hchoose := Selector.chooseFrom_some (now := now) (valid := valid) (found := found) hv
  dsimp only
  rw [hchoose]
  refine ⟨fun h => if_pos h, fun h hsame => ?_, fun h hne himmediate => ?_, fun h hne himmediate => ?_⟩
  · rw [if_neg (by simp [h]), if_pos hsame]
  · rw [if_neg (by simp [h]), if_neg hne, if_pos himmediate]
    rfl
  · rw [if_neg (by simp [h]), if_neg hne, if_neg (by simp [himmediate])]
    refine ⟨fun since hc => ?_, fun hc => ?_⟩
    · rw [Selector.dwellTest_pending hc]
      exact ⟨fun hle => if_pos hle, fun hlt => if_neg (Nat.not_le.mpr hlt)⟩
    · rw [Selector.dwellTest_fresh hc]
      exact ⟨fun h0 => if_pos h0, fun hpos => if_neg (Nat.ne_of_gt hpos)⟩

end Sys2Proof.Machine
end

section
/-!
PROOFS. The view, the zones, the draw list and the composition fixed at an output frame start in RUN (R51, R92, R116, R117, R122 to R125,
R143, R145, R146, R156, R164).
-/
namespace Sys2Proof.Machine

/-! ## The causes of a start in RUN (R122, R125, R156) -/

@[simp] theorem mem_latchIf (b : Bool) (j k : Latch) : k ∈ latchIf b j ↔ b = true ∧ k = j := by
  cases b <;> simp

theorem mem_allZones (z : ZoneNo) : z ∈ allZones := by
  revert z
  decide

theorem mem_fallLatch (z : ZoneNo) (before after : ZoneState) (k : Latch) :
    k ∈ fallLatch z before after ↔ (before.marked = true ∧ after.marked = false) ∧ k = .zoneFall z := by
  simp [fallLatch]

section
variable (s : State)

theorem State.mem_startCauses (k : Latch) : k ∈ s.startCauses ↔
    (s.choice.2 = true ∧ k = .ruleSkipped) ∨ (s.choice.1.current ≠ s.selector.current ∧ k = .viewSwitched) ∨
      ∃ z, ((s.monitor.zone z).state.marked = true ∧ (s.armed.zone z).state.marked = false) ∧ k = .zoneFall z := by
  simp only [State.startCauses, List.mem_append, mem_latchIf, List.mem_flatMap, mem_fallLatch, mem_allZones, true_and, or_assoc,
    decide_eq_true_eq]

theorem Selector.ruleList_getElem? (x : Selector) (i : Nat) (r : Rule) : x.ruleList[i]? = some r ↔ i < 16 ∧ x.rule i = r := by
  rw [Selector.ruleList, List.getElem?_map]
  by_cases h : i < 16
  · simp [h]
  · rw [List.getElem?_eq_none (by simpa using h)]
    simp [h]

/-- RULE_SKIPPED is due where no force stands and a rule that holds, with no matching rule before it, has no VALID target (R125). -/
theorem State.choice_skipped : s.choice.2 = true ↔ s.selector.forced = none ∧ ∃ i, i < 16 ∧
    (s.selector.rule i).holds s.startSnapshot ∧ (s.view (s.selector.rule i).target).state ≠ .valid ∧
    ∀ j, j < i → ¬ ((s.selector.rule j).holds s.startSnapshot ∧ (s.view (s.selector.rule j).target).state = .valid) := by
  unfold State.choice Selector.choose
  dsimp only
  cases s.selector.forced with
  | some f => simp
  | none =>
    dsimp only
    rw [findCandidate_skipped_iff]
    simp only [Selector.ruleList_getElem?, State.viewValid_iff, State.viewValid_eq_false_iff, true_and]
    constructor
    · rintro ⟨i, r, ⟨hi, rfl⟩, hholds, hinvalid, hfirst⟩
      exact ⟨i, hi, hholds, hinvalid, fun j hj => hfirst j _ hj ⟨hj.trans hi, rfl⟩⟩
    · rintro ⟨i, hi, hholds, hinvalid, hfirst⟩
      refine ⟨i, _, ⟨hi, rfl⟩, hholds, hinvalid, ?_⟩
      rintro j q hj ⟨-, rfl⟩
      exact hfirst j hj

/-- A start in RUN always fixes a current view (R123). -/
theorem Selector.choose_some (x : Selector) (now : PartTime) (valid : ViewNo → Bool) (snap : SignalSnapshot) :
    ∃ v, (x.choose now valid snap).1.current = some v := by
  unfold Selector.choose
  split
  · exact ⟨_, rfl⟩
  · dsimp only
    cases hcur : x.current with
    | none => exact ⟨_, by rw [Selector.chooseFrom_none hcur]; rfl⟩
    | some v =>
      rw [Selector.chooseFrom_some hcur]
      split_ifs
      · exact ⟨_, rfl⟩
      · exact ⟨v, hcur⟩
      · exact ⟨_, rfl⟩
      · unfold Selector.dwellTest
        dsimp only
        split_ifs
        · exact ⟨_, rfl⟩
        · exact ⟨v, hcur⟩

theorem State.choice_some : ∃ v, s.choice.1.current = some v := Selector.choose_some _ _ _ _

theorem State.choice_snapshot : s.choice.1.snapshot = some s.startSnapshot := by
  obtain ⟨_, _, h⟩ := Selector.choose_frame { s.selector with
    signals := s.selector.signals.aged s.partTime s.selector.timeouts
    snapshot := some s.startSnapshot } s.partTime s.viewValid s.startSnapshot
  rw [State.choice, h]

theorem State.armed_zone (z : ZoneNo) : s.armed.zone z =
    (s.monitor.zone z).atStart s.choice.1.current (decide (s.choice.1.current ≠ s.selector.current)) :=
  ZoneMonitor.zone_mapZones s.monitor _ z

/-- Latch 38 after a start in RUN. -/
theorem State.startCauses_ruleSkipped : (∃ k ∈ s.startCauses, k.number = 38) ↔ s.choice.2 = true := by
  simp only [State.mem_startCauses]
  constructor
  · rintro ⟨k, ⟨h, rfl⟩ | ⟨-, rfl⟩ | ⟨z, -, rfl⟩, hk⟩
    · exact h
    · cases hk
    · have hz : 21 + 2 * z.val = 38 := hk
      omega
  · exact fun h => ⟨.ruleSkipped, .inl ⟨h, rfl⟩, rfl⟩

/-- Latch 36 after a start in RUN. -/
theorem State.startCauses_viewSwitched : (∃ k ∈ s.startCauses, k.number = 36) ↔ s.choice.1.current ≠ s.selector.current := by
  simp only [State.mem_startCauses]
  constructor
  · rintro ⟨k, ⟨-, rfl⟩ | ⟨h, rfl⟩ | ⟨z, -, rfl⟩, hk⟩
    · cases hk
    · exact h
    · have hz : 21 + 2 * z.val = 36 := hk
      omega
  · exact fun h => ⟨.viewSwitched, .inr (.inl ⟨h, rfl⟩), rfl⟩

end

/-- Settles O19: the selector's part of a start in RUN. -/
theorem runFrameStartFixesTheView : Obligations.RunFrameStartFixesTheView := by
  intro s t hclock hop hphase
  obtain ⟨n, -, hrun⟩ := (s.atTime t).openFrame.runStart_eq
  have hmember (k : Nat) (hk : k < 43) := member_setLatches (s.atTime t).openFrame.startCauses s.mgmt.latches k hk
  refine ⟨_, exec_outputFrameStart_run hclock hphase hop, ?_⟩
  rw [hrun]
  refine ⟨rfl, rfl, rfl, rfl, OutputUnit.started_of_run t hop, ⟨rfl, ?_⟩, (s.atTime t).openFrame.choice_some, fun hne => ?_,
    fun heq => ?_, rfl⟩
  · refine (hmember 38 (by decide)).trans (or_congr_right ?_)
    rw [State.startCauses_ruleSkipped, State.choice_skipped]
    simp only [Rule.holds, and_assoc]
    rfl
  · exact (hmember 36 (by decide)).mpr (.inr ((State.startCauses_viewSwitched _).mpr hne))
  · rw [Bool.eq_iff_iff]
    refine (hmember 36 (by decide)).trans (or_iff_left fun h => ?_)
    exact (State.startCauses_viewSwitched _).mp h heq

/-- A record is active under a view in use where it is ON and the view is in its mask (R156). -/
theorem ZoneRecord.active_eq_false_iff (r : ZoneRecord) (v : ViewNo) :
    r.active true (some v) = false ↔ r.enable = false ∨ member r.viewMask v.val = false := by
  cases h : r.enable <;> simp [ZoneRecord.active, maskHas, h]

/-- The overlay engine with a pending swap carried out (R143). -/
theorem State.swappedIn_eq (s : State) : s.swappedIn = { s.overlay with
    active := if s.overlay.swapPending = true then s.overlay.active.other else s.overlay.active
    swapPending := false } := by
  unfold State.swappedIn
  split_ifs with h
  · rfl
  · rw [Bool.not_eq_true] at h
    rw [← h]

/-- A zone's state at a start in RUN, with a view in use (R156, R164). -/
theorem Zone.atStart_state (x : Zone) (v : ViewNo) (current : Option ViewNo) :
    (x.atStart (some v) (decide (some v ≠ current))).state =
      if x.record.enable = false ∨ member x.record.viewMask v.val = false then .disarmed
      else if current ≠ some v ∨ x.state = .disarmed then .settling 8
      else x.state := by
  simp only [Zone.atStart, ZoneState.settled, ZoneRecord.active_eq_false_iff, decide_eq_true_eq, ne_comm]

/-- Settles O20: the overlay engine's, the zones' and the compositor's part of a start in RUN. -/
theorem runFrameStartArmsAndDraws : Obligations.RunFrameStartArmsAndDraws := by
  intro s t hclock hop hphase
  obtain ⟨n, -, hrun⟩ := (s.atTime t).openFrame.runStart_eq
  obtain ⟨v, hv⟩ := (s.atTime t).openFrame.choice_some
  have hmember (k : Nat) (hk : k < 43) := member_setLatches (s.atTime t).openFrame.startCauses s.mgmt.latches k hk
  refine ⟨_, v, (s.atTime t).openFrame.startSnapshot, exec_outputFrameStart_run hclock hphase hop, ?_⟩
  rw [hrun]
  refine ⟨hv, State.choice_snapshot _, ?_, ?_, rfl, fun z => ?_⟩
  · show (s.atTime t).openFrame.begun (s.atTime t).openFrame.choice.1.current = _
    rw [hv]
    rfl
  · dsimp only
    rw [State.swappedIn_eq, State.startInputs, hv]
    rfl
  · have hzone := (s.atTime t).openFrame.armed_zone z
    rw [hv] at hzone
    have hstate := Zone.atStart_state (s.monitor.zone z) v s.selector.current
    refine ⟨(congrArg Zone.record hzone :), (congrArg Zone.lastChanged hzone :), ((congrArg Zone.state hzone).trans hstate :),
      fun hbefore hafter => (hmember _ (by omega)).mpr (.inr ⟨.zoneFall z, ?_, rfl⟩)⟩
    exact (State.mem_startCauses _ _).mpr (.inr (.inr ⟨z, ⟨hbefore, hafter⟩, rfl⟩))

end Sys2Proof.Machine
end

section
/-!
PROOFS. What the readings of chapter 10 give and that every record they give is within its ranges (R4, R72, R73, R118, R120, R126, R133,
R139, R154).
-/
namespace Sys2Proof.Machine

/-! ## What a reading that succeeds has read -/

/-- The element R139 makes of a payload with the given kind, condition and negate: each field brought into its range. -/
def clampedElement (p : List Byte) (kind : ElementKind) (condition : Condition) (negate : Bool) : Element where
  kind := kind
  condition := condition
  negate := negate
  x := clampInt (-1024) 2047 (s16 p 4)
  y := clampInt (-1024) 2047 (s16 p 6)
  w := clampNat 0 2047 (u16 p 8)
  h := clampNat 0 2047 (u16 p 10)
  thickness := clampNat 1 16 (u8 p 12)
  palette := Fin.ofNat 16 (u8 p 13)
  spriteOffset := clampNat 0 16383 (u16 p 14)
  spriteWidth := clampNat 1 256 (u16 p 16)
  spriteHeight := clampNat 1 256 (u16 p 18)
  paletteBase := Fin.ofNat 16 (u8 p 20)
  viewMask := byteAt p 21
  blinkValue := byteAt p 22
  blinkMask := byteAt p 23

theorem readElement_eq_ok {p : List Byte} {e : Element} (h : readElement p = .ok e) :
    elementIndexesOk p = true ∧ ∃ kind condition negate, elementKind? (u8 p 0) = some kind ∧
      readCondition (u8 p 1) (u8 p 2) = .ok condition ∧ onOff? (u8 p 3) = some negate ∧ e = clampedElement p kind condition negate := by
  unfold readElement at h
  split_ifs at h with hindex
  split at h
  · rename_i kind condition negate hkind hcondition hnegate
    exact ⟨hindex, kind, condition, negate, hkind, hcondition, hnegate, (Except.ok.inj h).symm⟩
  · cases h

theorem readBand_eq_ok {p : List Byte} {l : List Span} (h : readBand p = .ok l) :
    u8 p 0 ≤ 7 ∧ l = (List.range (u8 p 0)).map fun i => spanAt p (1 + 8 * i) := by
  unfold readBand at h
  split_ifs at h with hcount
  exact ⟨hcount, (Except.ok.inj h).symm⟩

/-- The rule R120 makes of a payload with the given target, switches and conditions. -/
def clampedRule (p : List Byte) (target : ViewNo) (enable immediate : Bool) (speed : RangeCondition Nat) (steer : RangeCondition Int) :
    Rule where
  enable := enable
  gearSet := BitVec.ofNat 4 (u8 p 1)
  indicatorSet := BitVec.ofNat 4 (u8 p 2)
  speed := speed
  steer := steer
  bodyValue := byteAt p 13
  bodyMask := byteAt p 14
  target := target
  immediate := immediate

theorem readRule_eq_ok {p : List Byte} {r : Rule} (h : readRule p = .ok r) :
    ∃ target enable immediate speed steer, toFin? 8 (u8 p 15) = some target ∧ onOff? (u8 p 0) = some enable ∧
      onOff? (u8 p 16) = some immediate ∧ speedCondition? p = some speed ∧ steerCondition? p = some steer ∧
      r = clampedRule p target enable immediate speed steer := by
  unfold readRule at h
  split at h
  · cases h
  split at h
  · exact ⟨_, _, _, _, _, ‹_›, ‹_›, ‹_›, ‹_›, ‹_›, (Except.ok.inj h).symm⟩
  · cases h

/-- The zone record R154 makes of a payload with the given enable. -/
def clampedZoneRecord (p : List Byte) (enable : Bool) : ZoneRecord where
  enable := enable
  tx0 := clampNat 0 39 (u8 p 1)
  tx1 := clampNat 0 39 (u8 p 2)
  ty0 := clampNat 0 24 (u8 p 3)
  ty1 := clampNat 0 24 (u8 p 4)
  viewMask := byteAt p 5
  threshold := clampNat 0 1023 (u16 p 6)
  trigger := clampNat 1 255 (u8 p 8)
  confirm := clampNat 1 15 (u8 p 9)
  holdTime := clampNat 0 5000 (u16 p 10)
  learnShift := clampNat 1 8 (u8 p 12)

theorem readZoneRecord_eq_ok {p : List Byte} {r : ZoneRecord} (h : readZoneRecord p = .ok r) :
    ∃ enable, onOff? (u8 p 0) = some enable ∧ r = clampedZoneRecord p enable := by
  unfold readZoneRecord at h
  split at h
  · cases h
  · exact ⟨_, ‹_›, (Except.ok.inj h).symm⟩

/-! ## A clamped field is in its range -/

theorem clampNat_mem {lo hi : Nat} (h : lo ≤ hi) (n : Nat) : lo ≤ clampNat lo hi n ∧ clampNat lo hi n ≤ hi := by
  rw [clampNat_eq_max_min h]
  omega

theorem clampNat_le (hi n : Nat) : clampNat 0 hi n ≤ hi := (clampNat_mem (Nat.zero_le hi) n).2

theorem clampInt_mem {lo hi : Int} (h : lo ≤ hi) (n : Int) : lo ≤ clampInt lo hi n ∧ clampInt lo hi n ≤ hi := by
  rw [clampInt_eq_max_min h]
  omega

/-! ## Every record read is within its ranges -/

section
variable {p : List Byte}

theorem readCameraRecord_inRange {r : CameraRecord} (h : readCameraRecord p = .ok r) : r.InRange := by
  obtain ⟨hwidth, hheight, -, hstale, hloss, hfreeze, -, -, hgain, hoffset, hslots⟩ := readCameraRecord_fields h
  obtain ⟨hform, -⟩ := readCameraRecord_eq_ok h
  refine ⟨by omega, by omega, by omega, by omega, ?_, by omega, by omega, ?_⟩
  · rw [hfreeze]
    split_ifs
    · exact .inl rfl
    · exact .inr (by omega)
  · have hlength : r.slotList.length = u8 p 16 := by simpa using congrArg List.length hslots
    have hnodup : (r.slotList.map Fin.val).Nodup := hslots ▸ (slotBytes_nodup_iff p).mpr hform.distinct
    exact ⟨hlength ▸ hform.count_pos, hlength ▸ hform.count_le, hnodup.of_map _⟩

theorem readViewHeader_inRange {x : ViewHeader} (h : readViewHeader p = .ok x) : x.InRange := by
  obtain ⟨hatch, -, rfl⟩ := readViewHeader_eq_ok h
  exact ⟨clampNat_mem (by decide) _, clampNat_mem (by decide) _⟩

theorem cornersAt_inRange (p : List Byte) (i : Nat) : (cornersAt p i).CoordsInRange :=
  ⟨⟨clampNat_le _ _, clampNat_le _ _⟩, ⟨clampNat_le _ _, clampNat_le _ _⟩, ⟨clampNat_le _ _, clampNat_le _ _⟩,
    clampNat_le _ _, clampNat_le _ _⟩

theorem readTile_inRange {r : TileRecord} (h : readTile p = .ok r) : r.InRange := by
  obtain ⟨primary, secondary, -, -, rfl⟩ := readTile_eq_ok h
  exact ⟨cornersAt_inRange p 2, cornersAt_inRange p 18, clampNat_le _ _, clampNat_le _ _, clampNat_le _ _, clampNat_le _ _⟩

theorem readElement_inRange {e : Element} (h : readElement p = .ok e) : e.InRange := by
  obtain ⟨-, kind, condition, negate, -, -, -, rfl⟩ := readElement_eq_ok h
  have hx : _ ∧ _ := clampInt_mem (lo := -1024) (hi := 2047) (by decide) (s16 p 4)
  have hy : _ ∧ _ := clampInt_mem (lo := -1024) (hi := 2047) (by decide) (s16 p 6)
  have hwidth : _ ∧ _ := clampNat_mem (lo := 1) (hi := 256) (by decide) (u16 p 16)
  have hheight : _ ∧ _ := clampNat_mem (lo := 1) (hi := 256) (by decide) (u16 p 18)
  exact ⟨⟨hx.1, hx.2, hy⟩, ⟨clampNat_le _ _, clampNat_le _ _⟩, clampNat_mem (by decide) _,
    clampNat_le _ _, hwidth.1, hwidth.2, hheight⟩

theorem spanAt_inRange (p : List Byte) (i : Nat) : (spanAt p i).InRange :=
  ⟨clampInt_mem (by decide) _, clampNat_le _ _, clampInt_mem (by decide) _, clampInt_mem (by decide) _⟩

theorem readBand_inRange {l : List Span} (h : readBand p = .ok l) : l.length ≤ 7 ∧ ∀ x ∈ l, x.InRange := by
  obtain ⟨hcount, rfl⟩ := readBand_eq_ok h
  refine ⟨by simpa using hcount, fun x hx => ?_⟩
  obtain ⟨i, -, rfl⟩ := List.mem_map.mp hx
  exact spanAt_inRange p _

theorem readRule_inRange {r : Rule} (h : readRule p = .ok r) : r.InRange := by
  obtain ⟨target, enable, immediate, speed, steer, -, -, -, hspeed, hsteer, rfl⟩ := readRule_eq_ok h
  refine ⟨fun low high hr => ?_, fun low high hr => ?_⟩
  · change speed = _ at hr
    subst hr
    unfold speedCondition? at hspeed
    split at hspeed <;> cases hspeed
    exact ⟨clampNat_le _ _, clampNat_le _ _⟩
  · change steer = _ at hr
    subst hr
    unfold steerCondition? at hsteer
    split at hsteer <;> cases hsteer
    exact ⟨clampInt_mem (by decide) _, clampInt_mem (by decide) _⟩

theorem readTimeouts_inRange (p : List Byte) : TimeoutInRange (readTimeouts p).steer ∧ TimeoutInRange (readTimeouts p).speed ∧
    TimeoutInRange (readTimeouts p).gear ∧ TimeoutInRange (readTimeouts p).indicator ∧ TimeoutInRange (readTimeouts p).body :=
  ⟨clampNat_mem (by decide) _, clampNat_mem (by decide) _, clampNat_mem (by decide) _, clampNat_mem (by decide) _,
    clampNat_mem (by decide) _⟩

theorem readZoneRecord_inRange {r : ZoneRecord} (h : readZoneRecord p = .ok r) : r.InRange := by
  obtain ⟨enable, -, rfl⟩ := readZoneRecord_eq_ok h
  exact ⟨⟨clampNat_le _ _, clampNat_le _ _⟩, ⟨clampNat_le _ _, clampNat_le _ _⟩, clampNat_le _ _, clampNat_mem (by decide) _,
    clampNat_mem (by decide) _, clampNat_le _ _, clampNat_mem (by decide) _⟩

/-- A signal message stores STEER and SPEED within their ranges (R115). -/
theorem applySignal_inRange {x y : SignalTable} {now : PartTime} {m : Message} (h : applySignal x now m = some y)
    (hx : (-450 ≤ x.steer.value ∧ x.steer.value ≤ 450) ∧ x.speed.value ≤ 1500) :
    (-450 ≤ y.steer.value ∧ y.steer.value ≤ 450) ∧ y.speed.value ≤ 1500 := by
  unfold applySignal at h
  split at h
  · cases h
    exact ⟨clampInt_mem (by decide) _, hx.2⟩
  · cases h
    exact ⟨hx.1, clampNat_le _ _⟩
  · obtain ⟨_, -, rfl⟩ := Option.map_eq_some_iff.mp h
    exact hx
  · obtain ⟨_, -, rfl⟩ := Option.map_eq_some_iff.mp h
    exact hx
  · cases h
    exact hx
  · cases h

end

/-! ## What power-on gives is within its ranges -/

theorem CameraRecord.initial_inRange (c : Camera) : (CameraRecord.initial c).InRange := by
  refine ⟨by decide +revert, by decide +revert, by decide +revert, by decide +revert, by decide +revert, by decide +revert, by decide +revert,
    by decide +revert⟩

theorem ViewHeader.cleared_inRange : ViewHeader.cleared.InRange := ⟨by decide, by decide⟩

theorem TileRecord.cleared_inRange : TileRecord.cleared.InRange := by
  refine ⟨?_, ?_, by decide⟩ <;> unfold Corners.CoordsInRange <;> decide

theorem Element.cleared_inRange : Element.cleared.InRange := ⟨by decide, by decide, by decide, by decide⟩

theorem Rule.cleared_inRange : Rule.cleared.InRange := ⟨nofun, nofun⟩

theorem ZoneRecord.initial_inRange : ZoneRecord.initial.InRange :=
  ⟨by decide, by decide, by decide, by decide, by decide, by decide, by decide⟩

end Sys2Proof.Machine
end

section
/-!
PROOFS. What every block stores stays in range and canonical under each operation of the block (R2, R29, R72, R73, R115, R118, R119,
R126, R133 to R136, R153).
-/
namespace Sys2Proof.Machine

/-! ## Tables of canonical entries -/

section
variable {α : Type} {d : α}

theorem Table.mem_of_read {t : Table α} {i : Nat} (h : Table.read d t i ≠ d) : (i, Table.read d t i) ∈ t := by
  induction t with
  | nil => exact absurd rfl h
  | cons e rest ih =>
    obtain ⟨k, v⟩ := e
    by_cases hk : k = i
    · rw [Table.read, if_pos hk, hk]
      exact List.mem_cons_self
    · rw [Table.read, if_neg hk] at h ⊢
      exact List.mem_cons_of_mem _ (ih h)

variable [DecidableEq α]

theorem Table.read_of_mem {hi lo i : Nat} {v : α} {t : Table α} (w : Table.wfFrom d hi lo t = true) (h : (i, v) ∈ t) :
    lo ≤ i ∧ i < hi ∧ Table.read d t i = v := by
  induction t generalizing lo with
  | nil => cases h
  | cons e rest ih =>
    obtain ⟨k, u⟩ := e
    simp only [Table.wfFrom, Bool.and_eq_true, decide_eq_true_eq] at w
    obtain ⟨⟨⟨hlo, hhi⟩, -⟩, hrest⟩ := w
    rcases List.mem_cons.mp h with heq | hmem
    · cases heq
      exact ⟨hlo, hhi, if_pos rfl⟩
    · obtain ⟨hki, hin, hread⟩ := ih hrest hmem
      refine ⟨by omega, hin, ?_⟩
      rw [Table.read, if_neg (by omega), hread]

/-- Every listed entry of a canonical table has a property that the default has, exactly when every entry has it. -/
theorem Table.all_iff {n : Nat} {t : Table α} {P : α → Bool} (w : Table.wf d n t = true) (hd : P d = true) :
    (t.all fun e => P e.2) = true ↔ ∀ i : Fin n, P (Table.read d t i.val) = true := by
  rw [List.all_eq_true]
  constructor
  · intro h i
    by_cases hi : Table.read d t i.val = d
    · rwa [hi]
    · exact h _ (Table.mem_of_read hi)
  · rintro h ⟨i, v⟩ hmem
    obtain ⟨-, hi, hread⟩ := Table.read_of_mem w hmem
    exact hread ▸ h ⟨i, hi⟩

end

/-! ## What each block stores -/

section
variable (tables : Prop)

/-- The pool's tables are canonical, where `tables` asks for it (R29, R30). -/
def Pool.Stored (p : Pool) : Prop := tables → Table.wf Slot.free 16 p.slots = true ∧ p.canonical = true

/-- A view's records are in range, and its tables canonical where `tables` asks for it (R72, R73). -/
def View.Stored (x : View) : Prop :=
  x.header.InRange ∧ (∀ i, (Table.read TileRecord.cleared x.tiles i).InRange) ∧ (tables → x.canonical = true)

/-- The view store's records are in range, and its tables canonical where `tables` asks for it. -/
def ViewsStored (t : Table View) : Prop :=
  (∀ v : ViewNo, (Table.read View.initial t v.val).Stored tables) ∧ (tables → Table.wf View.initial 8 t = true)

/-- A bank's records are in range, and its tables canonical where `tables` asks for it (R133 to R136). -/
def Bank.Stored (x : Bank) : Prop := x.InRange ∧ (tables → x.canonical = true)

/-- Both banks of the overlay engine. -/
def Overlay.Stored (o : Overlay) : Prop := o.bankA.Stored tables ∧ o.bankB.Stored tables

/-- The selector's values are in range, and its rules canonical where `tables` asks for it (R115, R118, R119, R126). -/
def Selector.Stored (x : Selector) : Prop := x.InRange ∧ (tables → Table.wf Rule.cleared 16 x.rules = true)

/-- The zones' records are in range, and the monitor's tables canonical where `tables` asks for it (R153). -/
def ZoneMonitor.Stored (m : ZoneMonitor) : Prop :=
  (∀ z, (m.zone z).record.InRange) ∧
    (tables → Table.wf Zone.initial 8 m.zones = true ∧ Table.wf Background.initial 1024 m.backgrounds = true)

/-- Everything the part stores. -/
def State.Stored (s : State) : Prop :=
  (∀ c, (s.channel c).record.InRange) ∧ s.pool.Stored tables ∧ ViewsStored tables s.views ∧ s.overlay.Stored tables ∧
    s.selector.Stored tables ∧ s.monitor.Stored tables

end

theorem View.initial_canonical : View.initial.canonical = true := by decide

/-- A canonical state, table by table. -/
theorem State.canonical_iff (s : State) : s.canonical = true ↔
    Table.wf Slot.free 16 s.pool.slots = true ∧ Table.wf View.initial 8 s.views = true ∧ (∀ v, (s.view v).canonical = true) ∧
      Table.wf Rule.cleared 16 s.selector.rules = true ∧ s.overlay.bankA.canonical = true ∧ s.overlay.bankB.canonical = true ∧
      Table.wf Zone.initial 8 s.monitor.zones = true ∧ Table.wf Background.initial 1024 s.monitor.backgrounds = true := by
  simp only [State.canonical, Bool.and_eq_true, and_assoc]
  refine and_congr_right fun _ => and_congr_right fun hviews => and_congr_left fun _ => ?_
  exact Table.all_iff (P := View.canonical) hviews View.initial_canonical

/-- What `State.Stored` says in the terms of the model's predicates. -/
theorem State.stored_iff (tables : Prop) (s : State) :
    s.Stored tables ↔ s.RecordsInRange ∧ (tables → s.canonical = true ∧ s.pool.canonical = true) := by
  rw [State.canonical_iff]
  constructor
  · rintro ⟨hcameras, hpool, ⟨hviews, hviewTable⟩, ⟨hbankA, hbankB⟩, ⟨hselector, hrules⟩, hzones, hmonitor⟩
    refine ⟨⟨hcameras, fun v => (hviews v).1, fun v => (hviews v).2.1, hbankA.1, hbankB.1, hselector, hzones⟩, fun h => ⟨?_, (hpool h).2⟩⟩
    exact ⟨(hpool h).1, hviewTable h, fun v => (hviews v).2.2 h, hrules h, hbankA.2 h, hbankB.2 h, hmonitor h⟩
  · rintro ⟨hrange, hcanon⟩
    refine ⟨hrange.cameras, ?pool, ⟨fun v => ⟨hrange.headers v, hrange.tiles v, ?view⟩, ?views⟩,
      ⟨⟨hrange.bankA, ?bankA⟩, ⟨hrange.bankB, ?bankB⟩⟩, ⟨hrange.selector, ?rules⟩, hrange.zones, ?zones⟩
    all_goals
      intro h
      obtain ⟨⟨hslots, hviewTable, hviews, hrules, hbankA, hbankB, hzones, hbackgrounds⟩, hpixels⟩ := hcanon h
    case pool => exact ⟨hslots, hpixels⟩
    case view => exact hviews v
    case views => exact hviewTable
    case bankA => exact hbankA
    case bankB => exact hbankB
    case rules => exact hrules
    case zones => exact ⟨hzones, hbackgrounds⟩

end Sys2Proof.Machine
end

section
/-!
PROOFS. Every step keeps the stored records in range and the tables canonical (R4, R72, R73, R118, R120, R126, R133, R139, R154).
-/
namespace Sys2Proof.Machine

/-! ## The pool's tables (R29, R30) -/

section
variable {tables : Prop} {p : Pool}

theorem Pool.Stored.setSlot (h : p.Stored tables) (k : SlotNo) (x : Slot) : (p.setSlot k x).Stored tables := fun ht =>
  ⟨Table.wf_write _ _ k.isLt (h ht).1, (h ht).2⟩

theorem Pool.Stored.setReady (h : p.Stored tables) (c : Camera) (l : List SlotNo) : (p.setReady c l).Stored tables := h

theorem Pool.Stored.mapSlots (h : p.Stored tables) (f : Slot → Slot) : (p.mapSlots f).Stored tables := fun ht =>
  ⟨Table.wf_tabulate .free 16 fun k => f (Table.read .free p.slots k), (h ht).2⟩

theorem Pool.Stored.leave (h : p.Stored tables) (c : Camera) : (p.leave c).Stored tables := (h.mapSlots _).setReady c []

theorem Pool.Stored.complete (h : p.Stored tables) (k : SlotNo) (frame : FrameRecord) : (p.complete k frame).Stored tables :=
  (h.setSlot k _).setReady _ _

theorem Pool.Stored.freeSlots (h : p.Stored tables) (l : List SlotNo) : (p.freeSlots l).Stored tables := by
  induction l generalizing p with
  | nil => exact h
  | cons k l ih => exact ih (h.setSlot k .free)

theorem Pool.Stored.settle (h : p.Stored tables) : p.settle.Stored tables := by
  suffices hfold : ∀ l : List SlotNo, (l.foldl Pool.settleSlot p).Stored tables from hfold allSlots
  intro l
  induction l generalizing p with
  | nil => exact h
  | cons k l ih =>
    refine ih ?_
    rcases p.settleSlot_cases k with ⟨_, _, _, -, -, he⟩ | ⟨c, f, -, -, he⟩ | ⟨-, he⟩ <;> rw [he]
    · exact h.setSlot k .free
    · exact (h.setSlot k (.ready c f false)).setReady c [k]
    · exact h

theorem Pool.Stored.initial {px : Table (List Pixel)} (h : tables → Table.wf ([] : List Pixel) 17280 px = true) :
    (Pool.initial px).Stored tables := fun ht => ⟨rfl, h ht⟩

theorem Pool.Stored.cleared (h : p.Stored tables) : p.cleared.Stored tables := .initial fun ht => (h ht).2

/-- A slot has room for 1080 lines, so a line below height has its place in the DRAM (R29). -/
theorem Pool.Stored.writeLine (h : p.Stored tables) (k : SlotNo) {n : Nat} (hn : n < 1080) (px : List Pixel) :
    (p.writeLine k n px).Stored tables := fun ht => by
  refine ⟨(h ht).1, Table.wf_write _ _ ?_ (h ht).2⟩
  unfold rowNumber
  omega

theorem fillMissing_stored {width count n : Nat} {x : Pool × FillingFrame} (h : x.1.Stored tables) (hn : n + count ≤ 1080) :
    (fillMissing width count n x).1.Stored tables := by
  induction count generalizing n x with
  | zero => exact h
  | succ count ih => exact ih (x := fillLine width n _ x) (h.writeLine _ (by omega) _) (by omega)

theorem lineMark_stored {r : CameraRecord} {n : Nat} {px : List Pixel} {good : Bool} {x : Pool × FillingFrame}
    (h : x.1.Stored tables) (hheight : r.height ≤ 1080) : (lineMark r n px good x).1.Stored tables := by
  unfold lineMark takeLine
  dsimp only
  split_ifs with hlong horder
  · exact h
  · exact h
  all_goals
    have hfilled (f : FillingFrame) : (fillMissing r.width (n - x.2.expected) x.2.expected (x.1, f)).1.Stored tables :=
      fillMissing_stored h (by omega)
    exact (hfilled _).writeLine _ (by omega) _

/-- A small step of a camera keeps the pool's tables. -/
theorem IngestStep.stored {agree : Prop} {c : Camera} {t : PartTime} {x y : Pool × Channel} (h : IngestStep agree c t x y)
    (hpool : x.1.Stored tables) (hrecord : x.2.record.InRange) : y.1.Stored tables := by
  cases h with
  | start | wake | count | skip | refill | enable => exact hpool
  | fill k => exact hpool.setSlot k _
  | overwrite k => exact (hpool.setSlot k _).setReady c _
  | line => exact lineMark_stored hpool hrecord.height.2
  | complete f => exact hpool.complete f.slot _
  | discard f => exact hpool.setSlot f.slot .free
  | halt f => exact (hpool.setSlot f.slot .free).leave c
  | leave | reacquire => exact hpool.leave c

theorem Ingest.stored {agree : Prop} {c : Camera} {t : PartTime} {x y : Pool × Channel} (h : Ingest agree c t x y)
    (hpool : x.1.Stored tables) (hrecord : x.2.record.InRange) : y.1.Stored tables := by
  induction h with
  | refl => exact hpool
  | tail hchain hstep ih => exact hstep.stored ih ((Ingest.frame hchain).1 ▸ hrecord)

end

/-! ## Views, banks, selector and zones -/

section
variable {tables : Prop}

theorem View.Stored.initial : View.initial.Stored tables :=
  ⟨ViewHeader.cleared_inRange, fun _ => TileRecord.cleared_inRange, fun _ => View.initial_canonical⟩

theorem View.canonical_iff (x : View) :
    x.canonical = true ↔ Table.wf false 1024 x.written = true ∧ Table.wf TileRecord.cleared 1024 x.tiles = true := by
  rw [View.canonical, Bool.and_eq_true]

/-- A view whose header and tiles are another's, or in range, and whose written set is emptied or kept. -/
theorem View.Stored.unwritten {x : View} (h : x.Stored tables) (state : ViewState) (flag : Bool) :
    View.Stored tables { x with state := state, headerWritten := flag, written := [] } :=
  ⟨h.1, h.2.1, fun ht => (View.canonical_iff _).mpr ⟨rfl, ((View.canonical_iff _).mp (h.2.2 ht)).2⟩⟩

theorem View.Stored.writeTile {x : View} (h : x.Stored tables) (i : Fin 1024) {r : TileRecord} (hr : r.InRange) :
    (x.writeTile i.val r).Stored tables := by
  refine ⟨h.1, fun j => ?_, fun ht => ?_⟩
  · show (Table.read TileRecord.cleared (Table.write TileRecord.cleared x.tiles i.val r) j).InRange
    rw [Table.read_write]
    split_ifs
    · exact hr
    · exact h.2.1 j
  · obtain ⟨hwritten, htiles⟩ := (View.canonical_iff _).mp (h.2.2 ht)
    exact (View.canonical_iff _).mpr ⟨Table.wf_write false true i.isLt hwritten, Table.wf_write _ r i.isLt htiles⟩

theorem View.Stored.restarted {x : View} (h : x.Stored tables) : x.restarted.Stored tables := by
  unfold View.restarted
  split_ifs
  · exact h.unwritten _ _
  · exact h

theorem ViewsStored.write {t : Table View} (h : ViewsStored tables t) (v : ViewNo) {x : View} (hx : x.Stored tables) :
    ViewsStored tables (Table.write View.initial t v.val x) := by
  refine ⟨fun w => ?_, fun ht => Table.wf_write _ _ v.isLt (h.2 ht)⟩
  rw [Table.read_write]
  split_ifs
  · exact hx
  · exact h.1 w

theorem ViewsStored.restarted {t : Table View} (h : ViewsStored tables t) : ViewsStored tables (restartViews t) := by
  refine ⟨fun w => ?_, fun _ => Table.wf_tabulate _ _ _⟩
  rw [restartViews, Table.read_tabulate, if_pos w.isLt]
  exact (h.1 w).restarted

theorem Bank.canonical_iff (x : Bank) : x.canonical = true ↔
    Table.wf Element.cleared 64 x.elements = true ∧ Table.wf PaletteEntry.cleared 16 x.palette = true ∧
      Table.wf (0 : Byte) 16384 x.sprites = true ∧ Table.wf ([] : List Span) 31 x.bands = true := by
  simp only [Bank.canonical, Bool.and_eq_true, and_assoc]

theorem Bank.Stored.cleared : Bank.cleared.Stored tables :=
  ⟨⟨fun _ => Element.cleared_inRange, fun _ => Nat.zero_le _, fun _ => ⟨Nat.zero_le _, nofun⟩⟩, fun _ => rfl⟩

/-- An overlay write keeps a bank in range and canonical (R138, R139). -/
theorem Bank.Stored.written {m : Message} {f : Bank → Bank} (hf : Bank.Write m f) {x : Bank} (h : x.Stored tables) :
    (f x).Stored tables := by
  obtain ⟨⟨helements, hpalette, hbands⟩, hcanonical⟩ := h
  refine ⟨?_, fun ht => ?_⟩
  · cases hf with
    | element i e hread =>
      refine ⟨fun j => ?_, hpalette, hbands⟩
      rw [Bank.element, Table.read_write]
      split_ifs
      · exact readElement_inRange hread
      · exact helements j
    | palette i =>
      refine ⟨helements, fun j => ?_, hbands⟩
      rw [Bank.paletteEntry, Table.read_write]
      split_ifs
      · exact clampNat_le _ _
      · exact hpalette j
    | sprite => exact ⟨helements, hpalette, hbands⟩
    | band i l hread =>
      refine ⟨helements, hpalette, fun j => ?_⟩
      rw [Bank.band, Table.read_write]
      split_ifs
      · exact readBand_inRange hread
      · exact hbands j
  · obtain ⟨hwfElements, hwfPalette, hwfSprites, hwfBands⟩ := (Bank.canonical_iff x).mp (hcanonical ht)
    rw [Bank.canonical_iff]
    cases hf with
    | element i e hread => exact ⟨Table.wf_write _ _ i.isLt hwfElements, hwfPalette, hwfSprites, hwfBands⟩
    | palette i => exact ⟨hwfElements, Table.wf_write _ _ i.isLt hwfPalette, hwfSprites, hwfBands⟩
    | sprite harea =>
      refine ⟨hwfElements, hwfPalette, Table.wf_writeMany _ _ ?_ hwfSprites, hwfBands⟩
      simp only [chunkInArea, Bool.and_eq_true, decide_eq_true_eq] at harea
      simpa [chunkBytes] using harea.2
    | band i l hread => exact ⟨hwfElements, hwfPalette, hwfSprites, Table.wf_write _ _ i.isLt hwfBands⟩

theorem Overlay.Stored.written {m : Message} {f : Bank → Bank} (hf : Bank.Write m f) {o : Overlay} (h : o.Stored tables)
    (which : BankId) : (o.setBank which (f (o.bank which))).Stored tables := by
  cases which with
  | a => exact ⟨h.1.written hf, h.2⟩
  | b => exact ⟨h.1, h.2.written hf⟩

theorem SignalEntry.aged_value {α : Type} (e : SignalEntry α) (now : PartTime) (timeout : Nat) : (e.aged now timeout).value = e.value := by
  unfold SignalEntry.aged
  split_ifs <;> rfl

theorem Selector.Stored.signals {x : Selector} (h : x.Stored tables) {y : SignalTable}
    (hy : (-450 ≤ y.steer.value ∧ y.steer.value ≤ 450) ∧ y.speed.value ≤ 1500) : Selector.Stored tables { x with signals := y } :=
  ⟨⟨h.1.rules, h.1.dwell, h.1.timeouts, hy.1, hy.2⟩, h.2⟩

/-- What is neither a rule, the dwell, a timeout nor a signal does not matter. -/
theorem Selector.Stored.of_same {x y : Selector} (h : x.Stored tables) (hrules : y.rules = x.rules) (hdwell : y.dwell = x.dwell)
    (htimeouts : y.timeouts = x.timeouts) (hsignals : y.signals = x.signals) : y.Stored tables := by
  obtain ⟨⟨hr, hd, ht, hsteer, hspeed⟩, hwf⟩ := h
  refine ⟨⟨fun i => ?_, hdwell ▸ hd, htimeouts ▸ ht, hsignals ▸ hsteer, hsignals ▸ hspeed⟩, hrules ▸ hwf⟩
  rw [Selector.rule, hrules]
  exact hr i

theorem Selector.Stored.aged {x : Selector} (h : x.Stored tables) (now : PartTime) (o : SignalTimeouts) :
    Selector.Stored tables { x with signals := x.signals.aged now o } := by
  refine h.signals ?_
  simp only [SignalTable.aged, SignalEntry.aged_value]
  exact ⟨h.1.steer, h.1.speed⟩

theorem State.choice_stored {s : State} (h : s.selector.Stored tables) : s.choice.1.Stored tables := by
  obtain ⟨current, candidate, he⟩ := Selector.choose_frame { s.selector with
    signals := s.selector.signals.aged s.partTime s.selector.timeouts
    snapshot := some s.startSnapshot } s.partTime s.viewValid s.startSnapshot
  rw [State.choice, he]
  exact (h.aged s.partTime s.selector.timeouts).of_same rfl rfl rfl rfl

theorem Selector.Stored.initial : Selector.initial.Stored tables :=
  ⟨⟨fun _ => Rule.cleared_inRange, by decide, by unfold TimeoutInRange; decide, by decide, by decide⟩, fun _ => rfl⟩

theorem ZoneMonitor.Stored.setZone {m : ZoneMonitor} (h : m.Stored tables) (z : ZoneNo) {x : Zone} (hx : x.record.InRange) :
    (m.setZone z x).Stored tables := by
  refine ⟨fun w => ?_, fun ht => ⟨Table.wf_write _ _ z.isLt (h.2 ht).1, (h.2 ht).2⟩⟩
  by_cases hw : w = z
  · rw [hw, ZoneMonitor.zone_setZone_same]
    exact hx
  · rw [ZoneMonitor.zone_setZone_other _ _ hw]
    exact h.1 w

theorem ZoneMonitor.Stored.mapZones {m : ZoneMonitor} (h : m.Stored tables) {f : Zone → Zone}
    (hf : ∀ x, (f x).record = x.record) : (m.mapZones f).Stored tables := by
  refine ⟨fun z => ?_, fun ht => ⟨?_, (h.2 ht).2⟩⟩
  · rw [ZoneMonitor.zone_mapZones, hf]
    exact h.1 z
  · exact Table.wf_tabulate Zone.initial 8 fun i => f (Table.read Zone.initial m.zones i)

theorem ZoneMonitor.Stored.tabulated {m : ZoneMonitor} (h : m.Stored tables) (f : Nat → Background) :
    ZoneMonitor.Stored tables { m with backgrounds := Table.tabulate Background.initial 1024 f } :=
  ⟨h.1, fun ht => ⟨(h.2 ht).1, Table.wf_tabulate _ _ _⟩⟩

theorem ZoneMonitor.Stored.detect {m : ZoneMonitor} (h : m.Stored tables) (x : TileResults) (now : PartTime) :
    (m.detect x now).Stored tables :=
  (h.mapZones (f := fun z => z.detect (changedCount m x z) now) fun _ => rfl).tabulated _

theorem ZoneMonitor.Stored.fallen {m : ZoneMonitor} (h : m.Stored tables) : m.fallen.Stored tables :=
  (h.mapZones (f := fun x => { x with state := .disarmed }) fun _ => rfl).tabulated _

theorem ZoneMonitor.Stored.restarted {m : ZoneMonitor} (h : m.Stored tables) : m.restarted.Stored tables :=
  (h.mapZones (f := fun x => ⟨x.record, .disarmed, 0⟩) fun _ => rfl).tabulated _

theorem ZoneMonitor.Stored.initial : ZoneMonitor.Stored tables ⟨[], []⟩ := ⟨fun _ => ZoneRecord.initial_inRange, fun _ => ⟨rfl, rfl⟩⟩

end

end Sys2Proof.Machine
end

section
/-!
PROOFS. Every step keeps the stored records in range and the tables canonical (R4, R72, R73, R118, R120, R126, R133, R139, R154), and the
state after reset meets every invariant.
-/
namespace Sys2Proof.Machine

section
variable {tables : Prop} {s : State}

/-! ## The updates of the state -/

theorem State.Stored.setMgmt (h : s.Stored tables) (x : Management) : (s.setMgmt x).Stored tables := h

theorem State.Stored.setPort (h : s.Stored tables) (x : DisplayPort) : (s.setPort x).Stored tables := h

theorem State.Stored.setOutput (h : s.Stored tables) (x : OutputUnit) : (s.setOutput x).Stored tables := h

theorem State.Stored.setCompositor (h : s.Stored tables) (x : Compositor) : (s.setCompositor x).Stored tables := h

theorem State.Stored.setPool (h : s.Stored tables) {x : Pool} (hx : x.Stored tables) : (s.setPool x).Stored tables := by
  obtain ⟨hcameras, -, hrest⟩ := h
  exact ⟨hcameras, hx, hrest⟩

theorem State.Stored.setMonitor (h : s.Stored tables) {x : ZoneMonitor} (hx : x.Stored tables) : (s.setMonitor x).Stored tables := by
  obtain ⟨hcameras, hpool, hviews, hoverlay, hselector, -⟩ := h
  exact ⟨hcameras, hpool, hviews, hoverlay, hselector, hx⟩

theorem State.Stored.setView (h : s.Stored tables) (v : ViewNo) {x : View} (hx : x.Stored tables) : (s.setView v x).Stored tables := by
  obtain ⟨hcameras, hpool, hviews, hrest⟩ := h
  exact ⟨hcameras, hpool, hviews.write v hx, hrest⟩

theorem State.Stored.setSelector (h : s.Stored tables) {x : Selector} (hx : x.Stored tables) : (s.setSelector x).Stored tables := by
  obtain ⟨hcameras, hpool, hviews, hoverlay, -, hmonitor⟩ := h
  exact ⟨hcameras, hpool, hviews, hoverlay, hx, hmonitor⟩

theorem State.Stored.setOverlay (h : s.Stored tables) {x : Overlay} (hx : x.Stored tables) : (s.setOverlay x).Stored tables := by
  obtain ⟨hcameras, hpool, hviews, -, hrest⟩ := h
  exact ⟨hcameras, hpool, hviews, hx, hrest⟩

theorem State.Stored.view (h : s.Stored tables) (v : ViewNo) : (s.view v).Stored tables := by
  obtain ⟨-, -, hviews, -⟩ := h
  exact hviews.1 v

theorem State.Stored.overlay (h : s.Stored tables) : s.overlay.Stored tables := by
  obtain ⟨-, -, -, hoverlay, -⟩ := h
  exact hoverlay

theorem State.Stored.selector (h : s.Stored tables) : s.selector.Stored tables := by
  obtain ⟨-, -, -, -, hselector, -⟩ := h
  exact hselector

/-- A record written keeps its range, since its reading clamped it. -/
theorem State.Stored.setRecord (h : s.Stored tables) (c : Camera) {r : CameraRecord} (hr : r.InRange) :
    (s.setChannel c { s.channel c with record := r }).Stored tables := by
  obtain ⟨hcameras, hrest⟩ := h
  refine ⟨fun d => ?_, hrest⟩
  by_cases hd : d = c
  · rw [hd, State.channel_setChannel_same]
    exact hr
  · rw [State.channel_setChannel_other _ _ hd]
    exact hcameras d

theorem State.Stored.zeroCounters (h : s.Stored tables) : s.zeroCounters.Stored tables := by
  obtain ⟨hcameras, hrest⟩ := h
  refine ⟨fun c => ?_, hrest⟩
  rw [State.channel, State.zeroCounters, PerCamera.get_build]
  exact hcameras c

theorem State.Stored.pool (h : s.Stored tables) : s.pool.Stored tables := by
  obtain ⟨-, hpool, -⟩ := h
  exact hpool

theorem State.Stored.monitor (h : s.Stored tables) : s.monitor.Stored tables := by
  obtain ⟨-, -, -, -, -, hmonitor⟩ := h
  exact hmonitor

/-! ## The events (chapters 1, 3 and 8) -/

theorem State.Ingested.stored {s' : State} {agree : Prop} {c : Camera} (h : s.Ingested agree c s') (hs : s.Stored tables) :
    s'.Stored tables := by
  obtain ⟨x, ks, hx, rfl⟩ := h
  obtain ⟨hcameras, hpool, hrest⟩ := hs
  refine ⟨fun d => ?_, hx.stored hpool (hcameras c), hrest⟩
  by_cases hd : d = c
  · rw [hd, State.cameraUpdate_channel, hx.frame.1]
    exact hcameras c
  · rw [State.cameraUpdate_channel_other _ _ _ _ hd]
    exact hcameras d

theorem State.holdCamera_stored (h : s.pool.Stored tables) (c : Camera) : (s.holdCamera c).pool.Stored tables := by
  unfold State.holdCamera
  dsimp only
  split
  · exact h
  · exact (h.freeSlots (s.pool.ready.get c).dropLast).setSlot _ (.held c _ false)

theorem State.holdAll_stored (h : s.pool.Stored tables) : s.holdAll.pool.Stored tables := by
  suffices hfold : ∀ l : List Camera, (l.foldl State.holdCamera s).pool.Stored tables from hfold allCameras
  intro l
  induction l generalizing s with
  | nil => exact h
  | cons c l ih => exact ih (s.holdCamera_stored h c)

theorem State.swappedIn_stored (h : s.overlay.Stored tables) : s.swappedIn.Stored tables := by
  unfold State.swappedIn
  split_ifs <;> exact h

theorem State.runStart_stored (h : s.Stored tables) : s.runStart.Stored tables := by
  obtain ⟨hcameras, hpool, hviews, hoverlay, hselector, hmonitor⟩ := h
  obtain ⟨n, -, he⟩ := s.runStart_eq
  have hheld := s.holdAll_stored hpool
  rw [he]
  generalize s.holdAll.pool = q at hheld
  refine ⟨fun c => ?_, hheld, hviews, State.swappedIn_stored hoverlay, State.choice_stored hselector, ?_⟩
  · exact State.withCounters_channel s q n c ▸ hcameras c
  · exact hmonitor.mapZones fun _ => rfl

theorem State.configStart_stored (h : s.Stored tables) : s.configStart.Stored tables := by
  obtain ⟨hcameras, hpool, hviews, hoverlay, hselector, hmonitor⟩ := h
  have haged := hselector.aged s.partTime s.selector.timeouts
  exact ⟨hcameras, hpool, hviews, hoverlay, haged.of_same rfl rfl rfl rfl, hmonitor⟩

theorem State.frameStart_stored (h : s.Stored tables) : s.frameStart.Stored tables := by
  obtain ⟨hcameras, hpool, hrest⟩ := h
  have hopened : s.openFrame.Stored tables := ⟨hcameras, hpool.mapSlots _, hrest⟩
  rcases s.frameStart_cases with ⟨-, he⟩ | ⟨-, -, he⟩ | ⟨-, -, he⟩ <;> rw [he]
  · exact ⟨hcameras, hpool, hrest⟩
  · exact State.runStart_stored hopened
  · exact State.configStart_stored hopened

theorem State.finished_stored (h : s.Stored tables) (sc : Scene) : (s.finished sc).Stored tables := by
  have hpool := h.pool.settle
  have hmonitor := h.monitor.detect sc.results s.partTime
  obtain ⟨hcameras, -, hviews, hoverlay, hselector, -⟩ := h
  unfold State.finished
  generalize s.pool.settle = p at hpool
  generalize s.monitor.detect sc.results s.partTime = m at hmonitor
  exact ⟨hcameras, hpool, hviews, hoverlay, hselector, hmonitor⟩

theorem State.sendTo_stored (h : s.Stored tables) (n : Nat) : (s.sendTo n).Stored tables := by
  obtain ⟨_, _, he⟩ := s.sendTo_eq n
  rw [he]
  exact h

theorem State.frameDone_stored (h : s.Stored tables) : s.frameDone.Stored tables := by
  have hsent := State.sendTo_stored h (activeHeight s.output.format)
  rcases s.frameDone_cases with ⟨-, he⟩ | ⟨-, -, he⟩ | ⟨-, v, p, m, r, -, he⟩ <;> rw [he]
  · exact h
  · exact hsent.setOutput _
  · exact State.finished_stored hsent _

theorem State.stopLines_stored (h : s.Stored tables) : s.stopLines.Stored tables := by
  obtain ⟨_, _, he⟩ := s.stopLines_eq
  rw [he]
  exact h

theorem State.abandon_stored (h : s.Stored tables) : s.abandon.Stored tables := by
  rcases s.abandon_cases with ⟨-, he⟩ | ⟨-, he⟩ <;> rw [he]
  · exact ((h.setPool h.pool.settle).setOverlay (x := { s.overlay with drawList := [] }) h.overlay).setCompositor .idle
  · exact h

theorem State.unlock_stored (h : s.Stored tables) : s.unlock.Stored tables := by
  unfold State.unlock
  split_ifs
  · exact ((State.abandon_stored (State.stopLines_stored h)).setOutput _).setMgmt _
  · exact h

theorem State.endFormat_stored (h : s.Stored tables) (r : Result) : (s.endFormat r).Stored tables := by
  rcases s.endFormat_cases r with ⟨m, -, he⟩ | ⟨-, he⟩ <;> rw [he] <;> exact h

theorem State.expireRelock_stored (h : s.Stored tables) : s.expireRelock.Stored tables := by
  obtain ⟨hcameras, hpool, hviews, hoverlay, hselector, hmonitor⟩ := h
  unfold State.expireRelock
  dsimp only
  split_ifs
  · rw [State.fallToConfig_eq]
    exact ⟨hcameras, hpool, hviews, State.swappedIn_stored (s := (s.lockIn 0).raiseLatch .lockFail) hoverlay,
      Selector.Stored.of_same hselector rfl rfl rfl rfl, ZoneMonitor.Stored.fallen hmonitor⟩
  · exact ⟨hcameras, hpool, hviews, hoverlay, hselector, hmonitor⟩
  · exact ⟨hcameras, hpool, hviews, hoverlay, hselector, hmonitor⟩

theorem State.holdExpiry_stored (h : s.Stored tables) (z : ZoneNo) : (s.holdExpiry z).Stored tables := by
  obtain ⟨hcameras, hpool, hviews, hoverlay, hselector, hmonitor⟩ := h
  unfold State.holdExpiry
  dsimp only
  split_ifs
  · exact ⟨hcameras, hpool, hviews, hoverlay, hselector, hmonitor.setZone z (hmonitor.1 z)⟩
  · exact ⟨hcameras, hpool, hviews, hoverlay, hselector, hmonitor⟩

theorem State.receive_stored (h : s.Stored tables) (m : Message) : (s.receive m).Stored tables := by
  unfold State.receive State.signalMessage State.offerRequest
  split_ifs
  · split
    · rename_i signals happly
      obtain ⟨hcameras, hpool, hviews, hoverlay, hselector, hmonitor⟩ := h
      have hsignals := applySignal_inRange happly ⟨hselector.1.steer, hselector.1.speed⟩
      exact ⟨hcameras, hpool, hviews, hoverlay, hselector.signals hsignals, hmonitor⟩
    · exact h
  · exact h
  · exact h

theorem State.blanking_stored (h : s.Stored tables) : s.blanking.Stored tables := by
  unfold State.blanking
  split_ifs
  · exact ((h.setPort _).setMgmt _).setOutput _
  · exact h

theorem State.powerOn_stored (h : s.pool.Stored tables) : s.powerOn.Stored tables := by
  refine ⟨fun c => ?_, h.cleared, ⟨fun _ => .initial, fun _ => rfl⟩, ⟨.cleared, .cleared⟩, .initial, .initial⟩
  show ((PerCamera.build Channel.initial).get c).record.InRange
  rw [PerCamera.get_build]
  exact CameraRecord.initial_inRange c

theorem State.softRestart_stored (h : s.Stored tables) : s.softRestart.Stored tables := by
  obtain ⟨hcameras, hpool, hviews, hoverlay, hselector, hmonitor⟩ := h
  refine ⟨fun c => ?_, ?_, ?_, hoverlay, ?_, ?_⟩
  · rw [State.softRestart_channel]
    exact hcameras c
  · rw [State.softRestart_pool]
    exact hpool.cleared
  · exact hviews.restarted
  · rw [s.softRestart_run.2.2.1]
    exact ⟨⟨hselector.1.rules, hselector.1.dwell, hselector.1.timeouts,
      (by decide : (-450 : Int) ≤ 0 ∧ (0 : Int) ≤ 450), Nat.zero_le _⟩, hselector.2⟩
  · exact ZoneMonitor.Stored.restarted hmonitor

/-! ## The requests (chapters 1, 4, 6, 7 and 8) -/

theorem State.releaseForce_stored (h : s.Stored tables) (v : ViewNo) : (s.releaseForce v).Stored tables := by
  obtain ⟨hcameras, hpool, hviews, hoverlay, hselector, hmonitor⟩ := h
  unfold State.releaseForce
  split_ifs
  · exact ⟨hcameras, hpool, hviews, hoverlay, hselector.of_same rfl rfl rfl rfl, hmonitor⟩
  · exact ⟨hcameras, hpool, hviews, hoverlay, hselector, hmonitor⟩

theorem Effect.stored {m : Message} {a : Answer} (ha : Effect m s a) (h : s.Stored tables) : a.state.Stored tables := by
  cases ha with
  | same | pendSwap | swap | takeEvents => exact h
  | cameraRecord c r hread => exact h.setRecord c (readCameraRecord_inRange hread)
  | viewHeader v x hread =>
    obtain ⟨-, htiles, hcanonical⟩ := h.view v
    exact h.setView v ⟨readViewHeader_inRange hread, htiles, hcanonical⟩
  | tile v i r hread => exact h.setView v ((h.view v).writeTile i (readTile_inRange hread))
  | bank which f hwrite => exact h.setOverlay (h.overlay.written hwrite which)
  | rule i r hread =>
    obtain ⟨hrange, hwf⟩ := h.selector
    refine h.setSelector ⟨⟨fun j => ?_, hrange.dwell, hrange.timeouts, hrange.steer, hrange.speed⟩,
      fun ht => Table.wf_write _ _ i.isLt (hwf ht)⟩
    rw [Selector.rule, Table.read_write]
    split_ifs
    · exact readRule_inRange hread
    · exact hrange.rules j
  | settings v dwell hdwell =>
    obtain ⟨hrange, hwf⟩ := h.selector
    exact h.setSelector ⟨⟨hrange.rules, hdwell, hrange.timeouts, hrange.steer, hrange.speed⟩, hwf⟩
  | timeouts =>
    obtain ⟨hrange, hwf⟩ := h.selector
    exact h.setSelector ⟨⟨hrange.rules, hrange.dwell, readTimeouts_inRange _, hrange.steer, hrange.speed⟩, hwf⟩
  | zoneRecord z r hread =>
    obtain ⟨hcameras, hpool, hviews, hoverlay, hselector, hmonitor⟩ := h
    exact ⟨hcameras, hpool, hviews, hoverlay, hselector, hmonitor.setZone z (readZoneRecord_inRange hread)⟩
  | openFresh v => exact State.releaseForce_stored (h.setView v ((h.view v).unwritten _ _)) v
  | openEdit v | validate v => exact h.setView v (h.view v)
  | withdraw v => exact State.releaseForce_stored (h.setView v (x := { s.view v with state := .withdrawn }) (h.view v)) v
  | enable c hoff => exact (s.ingested_enableCamera (agree := True) c hoff).stored h
  | disable c => exact (s.ingested_disableCamera (agree := True) c).stored h
  | restartCamera c => exact (s.ingested_restartCamera (agree := True) c).stored h
  | force | release => exact h.setSelector (h.selector.of_same rfl rfl rfl rfl)
  | formatZero | attempt => exact State.stopLines_stored h
  | run => exact h.zeroCounters
  | restart => exact State.softRestart_stored h

theorem Follows.stored {s' : State} (hs : s.Stored tables) (h : Follows s s') : s'.Stored tables := by
  cases h with
  | powerOn =>
    obtain ⟨-, hpool, -⟩ := hs
    exact s.powerOn_stored hpool
  | time t => exact hs
  | frameOpen t c number => exact ((s.atTime t).ingested_frameOpen (agree := False) c number False.elim).stored hs
  | line t c n samples good => exact ((s.atTime t).ingested_line (agree := True) c n samples good).stored hs
  | frameClose t c claimed => exact ((s.atTime t).ingested_frameClose (agree := True) c claimed).stored hs
  | linkDown t c => exact ((s.atTime t).ingested_linkDown (agree := True) c).stored hs
  | lossExpiry t c => exact ((s.atTime t).ingested_lossExpiry (agree := True) c).stored hs
  | lockFormat t =>
    unfold State.lockFormat
    split_ifs
    · exact State.endFormat_stored (s := (s.atTime t).lockIn _) hs .ok
    · exact hs
  | lockRelock t =>
    unfold State.lockRelock
    split_ifs <;> exact hs
  | expireFormat t =>
    unfold State.expireFormat
    split_ifs
    · exact State.endFormat_stored (s := ((s.atTime t).lockIn 0).raiseLatch .lockFail) hs .lockFail
    · exact hs
  | expireRelock t => exact State.expireRelock_stored (s := s.atTime t) hs
  | unlock t => exact State.unlock_stored (s := s.atTime t) hs
  | holdExpiry t z => exact State.holdExpiry_stored (s := s.atTime t) hs z
  | frameStart t => exact State.frameStart_stored (s := s.atTime t) hs
  | frameDone t => exact State.frameDone_stored (s := s.atTime t) hs
  | blanking t => exact State.blanking_stored (s := s.atTime t) hs
  | receive t m => exact State.receive_stored (s := s.atTime t) hs m
  | malformed => exact hs
  | executed row t m rest head idle hrow =>
    have heffect := (effect_of_row row m (s.taken t rest) hrow).stored hs
    generalize row.effect m (s.taken t rest) = a at heffect
    obtain ⟨x, _ | ⟨r, p⟩⟩ := a
    · exact heffect
    · exact heffect.setMgmt _

end

/-- Settles O59: what every block stores keeps its range and its canonical form in every state that follows. -/
theorem stepKeepsRecordsAndTables : Obligations.StepKeepsRecordsAndTables := by
  intro s s' hrange hstep
  have hstored : s.Stored (s.canonical = true ∧ s.pool.canonical = true) := (State.stored_iff _ s).mpr ⟨hrange, id⟩
  have hkept := step_keeps (P := State.Stored _) (fun _ _ h => h) (fun _ _ => Follows.stored) hstored hstep
  obtain ⟨hrange', hcanonical'⟩ := (State.stored_iff _ s').mp hkept
  exact ⟨hrange', fun hs hp => hcanonical' ⟨hs, hp⟩⟩

/-- Settles O60: the state after reset is the one that POWER_ON makes of itself, and each invariant holds after POWER_ON. -/
theorem resetMeetsTheInvariants : Obligations.ResetMeetsTheInvariants := by
  have hreset : State.reset.powerOn = State.reset := rfl
  have hchannels (c : Camera) : State.reset.channel c = .initial c := PerCamera.get_build Channel.initial c
  have hstored : State.reset.Stored True := hreset ▸ State.reset.powerOn_stored (.initial fun _ => rfl)
  obtain ⟨hrange, hcanonical⟩ := (State.stored_iff True State.reset).mp hstored
  refine ⟨fun c => ?_, State.reset_coherent, hreset ▸ (State.SlotsAgree.powerOn State.reset).agree, ?_, hrange, hcanonical trivial⟩
  · rw [hchannels]
    exact Channel.agrees_off (.initial c) 0 .zero .zero
  · exact ⟨Nat.zero_le _, Nat.zero_le _, nofun⟩

end Sys2Proof.Machine
end

section
/-!
PROOFS. Every command has a next state and leaves the queue of commands; POWER_ON; the marks that change nothing; the loss of a camera and
its controls (R1, R10, R20 to R28, R47, R70).
-/
namespace Sys2Proof.Machine

/-! ## The queue of commands -/

section
variable {s s' : State}

theorem State.Ingested.pending {agree : Prop} {c : Camera} (h : s.Ingested agree c s') : s'.pending = s.pending :=
  h.onlyCamera_self.pending

theorem State.stopLines_pending (s : State) : s.stopLines.pending = s.pending := by
  obtain ⟨_, _, he⟩ := s.stopLines_eq
  rw [he]
  rfl

theorem State.endFormat_pending (s : State) (r : Result) : (s.endFormat r).pending = s.pending := by
  rcases s.endFormat_cases r with ⟨m, -, he⟩ | ⟨-, he⟩ <;> rw [he]
  rfl

theorem State.unlock_pending (s : State) : s.unlock.pending = s.pending := by
  unfold State.unlock
  split_ifs
  · obtain ⟨p, list, x, he⟩ := s.stopLines.abandon_eq
    have habandon : s.stopLines.abandon.pending = s.stopLines.pending := by
      rw [he]
      rfl
    exact habandon.trans s.stopLines_pending
  · rfl

theorem State.frameStart_pending (s : State) : s.frameStart.pending = s.pending := by
  rcases s.frameStart_cases with ⟨-, he⟩ | ⟨-, -, he⟩ | ⟨-, -, he⟩ <;> rw [he]
  · obtain ⟨n, -, hrun⟩ := s.openFrame.runStart_eq
    rw [hrun]
    rfl
  · rfl

theorem State.finished_pending (s : State) (sc : Scene) : (s.finished sc).pending = s.pending := by
  rw [State.finished]

theorem State.frameDone_pending (s : State) : s.frameDone.pending = s.pending := by
  rcases s.frameDone_cases with ⟨-, he⟩ | ⟨-, -, he⟩ | ⟨-, v, p, m, r, -, he⟩ <;> rw [he]
  · rfl
  · rw [State.finished_pending]
    rfl

theorem State.releaseForce_pending (s : State) (v : ViewNo) : (s.releaseForce v).pending = s.pending := by
  unfold State.releaseForce
  split_ifs <;> rfl

theorem State.softRestart_pending (s : State) : s.softRestart.pending = s.pending := by
  unfold State.softRestart
  split_ifs
  · exact s.stopLines_pending
  · rfl

theorem Effect.pending {m : Message} {a : Answer} (ha : Effect m s a) : a.state.pending = s.pending := by
  cases ha with
  | enable c hoff => exact (s.ingested_enableCamera (agree := True) c hoff).pending
  | disable c => exact (s.ingested_disableCamera (agree := True) c).pending
  | restartCamera c => exact (s.ingested_restartCamera (agree := True) c).pending
  | openFresh v => exact (s.setView v _).releaseForce_pending v
  | withdraw v => exact (s.setViewState v .withdrawn).releaseForce_pending v
  | formatZero | attempt => exact s.stopLines_pending
  | restart => exact s.softRestart_pending
  | same | cameraRecord | viewHeader | tile | bank | rule | settings | timeouts | zoneRecord | openEdit | validate | pendSwap | swap
  | force | release | takeEvents | run => rfl

theorem Answer.settle_pending (a : Answer) (m : Message) : (a.settle m).pending = a.state.pending := by
  obtain ⟨s, _ | ⟨r, p⟩⟩ := a <;> rfl

theorem Follows.pending (h : Follows s s') : s'.pending = s.pending := by
  cases h with
  | frameOpen t c number => exact ((s.atTime t).ingested_frameOpen (agree := False) c number False.elim).pending
  | line t c n samples good => exact ((s.atTime t).ingested_line (agree := True) c n samples good).pending
  | frameClose t c claimed => exact ((s.atTime t).ingested_frameClose (agree := True) c claimed).pending
  | linkDown t c => exact ((s.atTime t).ingested_linkDown (agree := True) c).pending
  | lossExpiry t c => exact ((s.atTime t).ingested_lossExpiry (agree := True) c).pending
  | lockFormat t =>
    unfold State.lockFormat
    split_ifs
    · exact State.endFormat_pending _ _
    · rfl
  | lockRelock t =>
    unfold State.lockRelock
    split_ifs <;> rfl
  | expireFormat t =>
    unfold State.expireFormat
    split_ifs
    · exact State.endFormat_pending _ _
    · rfl
  | expireRelock t =>
    unfold State.expireRelock
    split_ifs <;> rfl
  | unlock t => exact (s.atTime t).unlock_pending
  | holdExpiry t z =>
    unfold State.holdExpiry
    dsimp only
    split_ifs <;> rfl
  | frameStart t => exact (s.atTime t).frameStart_pending
  | frameDone t => exact (s.atTime t).frameDone_pending
  | blanking t =>
    unfold State.blanking
    split_ifs <;> rfl
  | receive t m =>
    unfold State.receive State.signalMessage State.offerRequest
    split_ifs
    · split <;> rfl
    all_goals rfl
  | executed row t m rest head idle hrow =>
    exact (Answer.settle_pending _ m).trans (effect_of_row row m (s.taken t rest) hrow).pending
  | powerOn | time | malformed => rfl

end

/-- Settles O2: every command has a next state that follows, and what follows keeps the queue of commands. -/
theorem everyCommandHasANextState : Obligations.EveryCommandHasANextState := by
  intro i s
  obtain ⟨s', he, hf⟩ := exec_follows i s
  exact ⟨s', he, hf.pending⟩

/-! ## POWER_ON (R70) -/

/-- Settles O3: every block of the state after POWER_ON is its initial one; the first start is at once and counts from 0. -/
theorem powerOnEntersTheInitialState : Obligations.PowerOnEntersTheInitialState := by
  intro s
  refine ⟨s.powerOn, rfl, rfl, rfl, fun c => PerCamera.get_build Channel.initial c, fun k => rfl, fun c => ⟨?_, ?_⟩, rfl, fun v => rfl, rfl,
    rfl, rfl, fun z => rfl, fun i => rfl, rfl, fun t => ⟨_, exec_outputFrameStart_config rfl (.inl rfl) rfl, rfl⟩⟩
  · exact PerCamera.get_build (fun _ => []) c
  · exact PerCamera.get_build (fun _ => none) c

/-! ## Marks that change nothing (R1, R10, R21) -/

section
variable {s : State} {c : Camera}

theorem Channel.not_ingests_iff (ch : Channel) :
    ¬ ch.ingests = true ↔ ch.state = .off ∨ ch.state = .halted ∨ ch.state = .lost := by
  unfold Channel.ingests
  cases ch.state <;> simp

theorem State.frameOpen_ignored (h : (s.channel c).state = .off ∨ (s.channel c).state = .halted) (number : BitVec 16) :
    s.frameOpen c number = s := by
  have hin : ¬ (s.channel c).ingests = true := (Channel.not_ingests_iff _).mpr (h.imp_right .inl)
  have hlost : (s.channel c).state ≠ .lost := fun hl => by rcases h with h | h <;> cases hl.symm.trans h
  rw [State.frameOpen, if_neg hin, if_neg hlost]

theorem State.linkDown_ignored (h : ¬ (s.channel c).ingests = true) : s.linkDown c = s := if_neg h

theorem State.line_ignored (h : ¬ (s.channel c).ingests = true ∨ (s.channel c).filling = none) (n : BitVec 16) (px : LineSamples)
    (good : Bool) : s.line c n px good = s := by
  unfold State.line
  dsimp only
  split
  · rename_i f hin hfill
    exact absurd h (not_or.mpr ⟨not_not_intro hin, fun hn => nomatch hfill.symm.trans hn⟩)
  · rfl

theorem State.frameClose_ignored (h : ¬ (s.channel c).ingests = true ∨ (s.channel c).filling = none) (claimed : BitVec 16) :
    s.frameClose c claimed = s := by
  unfold State.frameClose
  dsimp only
  split
  · rename_i f hin hfill
    exact absurd h (not_or.mpr ⟨not_not_intro hin, fun hn => nomatch hfill.symm.trans hn⟩)
  · rfl

end

/-- Settles O4: a mark that the channel's state or the missing filling frame rules out leaves the state with the part time passed. -/
theorem marksOutOfServiceAreIgnored : Obligations.MarksOutOfServiceAreIgnored := by
  intro s t c
  refine ⟨fun h number => ?_, fun h => ?_, fun h => ?_, rfl⟩
  · exact congrArg Host.Outcome.next (State.frameOpen_ignored (s := s.atTime t) h number)
  · exact congrArg Host.Outcome.next (State.linkDown_ignored (s := s.atTime t) ((Channel.not_ingests_iff _).mpr h))
  · have hout : ¬ (s.channel c).ingests = true ∨ (s.channel c).filling = none := by
      rw [Channel.not_ingests_iff]
      simpa only [or_assoc] using h
    exact ⟨fun n px good => congrArg Host.Outcome.next (State.line_ignored (s := s.atTime t) hout n px good),
      fun claimed => congrArg Host.Outcome.next (State.frameClose_ignored (s := s.atTime t) hout claimed)⟩

/-! ## The loss of a camera (R20, R21, R23) -/

theorem Channel.lossDue_iff (ch : Channel) (now : PartTime) :
    ch.lossDue now = true ↔ ∃ t0, ch.lossTimer = some t0 ∧ ch.record.lossLimit * 1000 ≤ elapsed now t0 := by
  unfold Channel.lossDue
  cases ch.lossTimer <;> simp

theorem State.lossExpiry_before {s : State} {c : Camera} (h : ¬ (s.channel c).lossDue s.partTime = true) : s.lossExpiry c = s :=
  if_neg fun hdue => h hdue.2

/-- Settles O11: past its limit the loss timer's expiry does what LINK_DOWN does, which is R23's way out of service. -/
theorem cameraLossLeavesService : Obligations.CameraLossLeavesService := by
  intro s t c hin
  have hlose : (s.atTime t).linkDown c = (s.atTime t).loseCamera c := if_pos hin
  refine ⟨⟨s.pool.leave c, Pool.left_leave _ c, congrArg Host.Outcome.next hlose, fun t0 ht0 hdue => ?_⟩, fun t0 ht0 hearly => ?_⟩
  · have hexpired : (s.atTime t).lossExpiry c = (s.atTime t).loseCamera c :=
      if_pos ⟨hin, (Channel.lossDue_iff _ _).mpr ⟨t0, ht0, hdue⟩⟩
    exact congrArg Host.Outcome.next (hexpired.trans hlose.symm)
  · refine congrArg Host.Outcome.next (State.lossExpiry_before (s := s.atTime t) fun hdue => ?_)
    obtain ⟨t1, ht1, hlate⟩ := (Channel.lossDue_iff _ _).mp hdue
    cases ht0.symm.trans ht1
    exact absurd hlate (Nat.not_le.mpr hearly)

end Sys2Proof.Machine
end

section
/-!
PROOFS. One request executed (R168, R170, R171), and the requests of the cameras, the views, the force and the overlay swap: CAMERA_CONTROL
(R24 to R26), VIEW_OPEN (R77, R78), VIEW_FORCE (R127, R128) and OVERLAY_SWAP (R141, R142).
-/
namespace Sys2Proof.Machine

/-! ## One request executed -/

section
variable {row : RequestRow} {s s' : State} {t : PartTime} {rest : List Message} {kind tag target sub : Byte} {index : BitVec 16}
  {payload : List Byte} {r : Result} {p : List Byte}

theorem pushReply_request (s : State) : s.pushReply (request kind tag target sub index payload) r p =
    s.answered tag kind (if kind = 2 ∨ kind = 3 then target else 0) r p := by
  have htable : isTableRequest (request kind tag target sub index payload) = true ↔ kind = 2 ∨ kind = 3 := by
    simp [isTableRequest, request]
  rw [State.pushReply, replyTo]
  simp only [htable]
  rfl

/-- An awaited request of the row, past the whole-message tests, is answered by the row's effect. -/
theorem exec_request (h : s.Awaits (request kind tag target sub index payload) rest)
    (hrow : requestRow (request kind tag target sub index payload) = row)
    (hok : wholeMessageOk (request kind tag target sub index payload) = true)
    (heffect : row.effect (request kind tag target sub index payload) (s.taken t rest) = ⟨s', some (r, p)⟩) :
    exec (row.command t) s = .next (s'.answered tag kind (if kind = 2 ∨ kind = 3 then target else 0) r p) := by
  rw [exec_command, executeRequest_of_answer h hrow hok heffect, pushReply_request]

end

/-! ## CAMERA_CONTROL (R24 to R26) -/

section
variable {m : Message} {s : State}

theorem withCamera_of_eq {c : Camera} (f : Camera → Answer) (h : u8 m.payload 0 = c.val) : withCamera m s f = f c := by
  rw [withCamera, h, toFin?_val]

theorem withCamera_badIndex (f : Camera → Answer) (h : 3 < u8 m.payload 0) : withCamera m s f = refuse s .badIndex := by
  rw [withCamera, toFin?_eq_none h]

theorem toNat_byteOf_camera (c : Camera) : (byteOf c.val).toNat = c.val := by
  rw [byteOf, BitVec.toNat_ofNat]
  omega

section
variable {c : Camera} (hc : u8 m.payload 0 = c.val)
include hc

theorem enableEffect_of_camera (haction : u8 m.payload 1 = 1) : enableEffect m s =
    if (s.channel c).state = .off then done (s.enableCamera c) [] else refuse s .badState := by
  rw [enableEffect, withCamera_of_eq _ hc, if_neg (not_not_intro haction)]

theorem enableEffect_malformed (haction : u8 m.payload 1 ≠ 1) : enableEffect m s = refuse s .malformed := by
  rw [enableEffect, withCamera_of_eq _ hc, if_pos haction]

theorem disableEffect_of_camera : disableEffect m s = done (s.disableCamera c) [] := withCamera_of_eq _ hc

theorem restartCameraEffect_of_camera : restartCameraEffect m s =
    if (s.channel c).state = .off then refuse s .badState else done (s.restartCamera c) [] := withCamera_of_eq _ hc

end

/-- An action that is neither DISABLE nor RESTART is executed by the ENABLE row (the model's reading of R24). -/
theorem requestRow_cameraControl {tag target sub b action : Byte} {index : BitVec 16} (h2 : action ≠ 2) (h3 : action ≠ 3) :
    requestRow (request 6 tag target sub index [b, action]) = .cameraEnable := by
  show cameraRow [b, action] = .cameraEnable
  unfold cameraRow
  split
  · exact absurd (BitVec.eq_of_toNat_eq ‹_›) h2
  · exact absurd (BitVec.eq_of_toNat_eq ‹_›) h3
  · rfl

end

/-- Settles O12: each action's effect on the channel named, with the tests before it. -/
theorem cameraControlActsOnTheChannel : Obligations.CameraControlActsOnTheChannel := by
  intro s t c rest tag target sub index
  have hc (action : Byte) : u8 (request 6 tag target sub index [byteOf c.val, action]).payload 0 = c.val := toNat_byteOf_camera c
  refine ⟨fun h => ⟨fun hoff => ?_, fun hon => ?_⟩, fun h => ⟨fun hoff => ?_, fun hon => ⟨s.pool.leave c, Pool.left_leave _ c, ?_⟩⟩,
    fun h => ⟨fun hoff => ?_, fun hon => ⟨s.pool.leave c, Pool.left_leave _ c, ?_⟩⟩,
    fun b hb => ⟨fun h => ?_, fun h => ?_, fun h => ?_⟩, fun b action haction h => ?_⟩
  · exact exec_request (row := .cameraEnable) h rfl rfl ((enableEffect_of_camera (hc 1) rfl).trans (if_pos hoff))
  · exact exec_request (row := .cameraEnable) h rfl rfl ((enableEffect_of_camera (hc 1) rfl).trans (if_neg hon))
  · refine exec_request (row := .cameraDisable) h rfl rfl ((disableEffect_of_camera (hc 2)).trans ?_)
    exact congrArg (done · []) (if_pos hoff)
  · refine exec_request (row := .cameraDisable) h rfl rfl ((disableEffect_of_camera (hc 2)).trans ?_)
    exact congrArg (done · []) (if_neg hon)
  · exact exec_request (row := .cameraRestart) h rfl rfl ((restartCameraEffect_of_camera (hc 3)).trans (if_pos hoff))
  · refine exec_request (row := .cameraRestart) h rfl rfl ((restartCameraEffect_of_camera (hc 3)).trans ((if_neg hon).trans ?_))
    exact congrArg (done · []) ((s.taken t rest).restartCamera_eq c)
  · exact exec_request (row := .cameraEnable) h rfl rfl (withCamera_badIndex _ hb)
  · exact exec_request (row := .cameraDisable) h rfl rfl (withCamera_badIndex _ hb)
  · exact exec_request (row := .cameraRestart) h rfl rfl (withCamera_badIndex _ hb)
  · have h1 : action.toNat ≠ 1 := by
      rcases haction with rfl | h3
      · decide
      · omega
    have hrow : requestRow (request 6 tag target sub index [b, action]) = .cameraEnable := by
      refine requestRow_cameraControl ?_ ?_ <;> rintro rfl <;> simp at haction
    have hok : wholeMessageOk (request 6 tag target sub index [b, action]) = true := by
      rw [wholeMessageOk, hrow]
      rfl
    rw [hrow]
    split_ifs with hb
    · exact exec_request (row := .cameraEnable) h hrow hok (withCamera_badIndex _ hb)
    · have hcamera : u8 (request 6 tag target sub index [b, action]).payload 0 = (⟨b.toNat, Nat.lt_succ_of_le (Nat.not_lt.mp hb)⟩ : Camera).val := rfl
      exact exec_request (row := .cameraEnable) h hrow hok (enableEffect_malformed hcamera h1)

/-! ## VIEW_OPEN (R77, R78) -/

theorem State.inUse_iff (s : State) (v : ViewNo) : s.inUse v = true ↔ s.selector.current = some v := decide_eq_true_iff

theorem State.openFresh_of_not_forced {s : State} {v : ViewNo} (h : s.selector.forced ≠ some v) :
    s.openFresh v = s.setView v { s.view v with state := .loading, headerWritten := false, written := [] } :=
  State.releaseForce_of_not_forced (s := s.setView v _) h

theorem State.openFresh_of_forced {s : State} {v : ViewNo} (h : s.selector.forced = some v) :
    s.openFresh v = ((s.setView v { s.view v with state := .loading, headerWritten := false, written := [] }).setSelector
      { s.selector with forced := none }).latched .forceReleased :=
  State.releaseForce_of_forced (s := s.setView v _) h

section
variable {m : Message} {s : State} {v : ViewNo} (hv : u8 m.payload 1 = v.val)
include hv

theorem openFreshEffect_malformed (hmode : u8 m.payload 2 ≠ 0) : openFreshEffect m s = refuse s .malformed := by
  rw [openFreshEffect, withView_of_eq s _ hv, if_pos hmode]

section
variable (hmode : u8 m.payload 2 = 0)
include hmode

theorem openFreshEffect_badState (h : (s.view v).state = .loading ∨ (s.view v).state = .valid ∧
    (s.selector.current = some v ∨ v = s.selector.defaultView ∧ s.output.opState = .run)) :
    openFreshEffect m s = refuse s .badState := by
  rw [openFreshEffect, withView_of_eq s _ hv, if_neg (not_not_intro hmode)]
  rcases h with hstate | ⟨hstate, hguard⟩ <;> simp only [hstate]
  rw [← State.protectedDefault_iff, ← s.inUse_iff, ← Bool.or_eq_true] at hguard
  exact if_pos hguard

theorem openFreshEffect_busy (hstate : (s.view v).state = .withdrawn) (huse : s.selector.current = some v) :
    openFreshEffect m s = refuse s .busy := by
  rw [openFreshEffect, withView_of_eq s _ hv, if_neg (not_not_intro hmode)]
  simp only [hstate]
  exact if_pos ((s.inUse_iff v).mpr huse)

theorem openFreshEffect_done (h : (s.view v).state = .empty ∨ (s.view v).state = .valid ∧ s.selector.current ≠ some v ∧
      ¬ (v = s.selector.defaultView ∧ s.output.opState = .run) ∨ (s.view v).state = .withdrawn ∧ s.selector.current ≠ some v) :
    openFreshEffect m s = done (s.openFresh v) [] := by
  rw [openFreshEffect, withView_of_eq s _ hv, if_neg (not_not_intro hmode)]
  rcases h with hstate | ⟨hstate, huse, hguard⟩ | ⟨hstate, huse⟩ <;> simp only [hstate]
  · rw [ne_eq, ← s.inUse_iff] at huse
    rw [← State.protectedDefault_iff] at hguard
    exact if_neg fun h => (Bool.or_eq_true _ _ ▸ h).elim huse hguard
  · rw [ne_eq, ← s.inUse_iff] at huse
    exact if_neg huse

end

theorem openEditEffect_badState (hstate : (s.view v).state ≠ .withdrawn) : openEditEffect m s = refuse s .badState := by
  rw [openEditEffect, withView_of_eq s _ hv]
  split
  · exact absurd ‹_› hstate
  · rfl

theorem openEditEffect_of_withdrawn (hstate : (s.view v).state = .withdrawn) :
    openEditEffect m s = if s.inUse v then refuse s .busy else done (s.setViewState v .loading) [] := by
  rw [openEditEffect, withView_of_eq s _ hv]
  simp only [hstate]

end

/-- A VIEW_OPEN whose mode is not EDIT is executed by the FRESH row (the model's reading of R77). -/
theorem requestRow_viewOpen {tag target sub b mode : Byte} {index : BitVec 16} (hmode : mode ≠ 1) :
    requestRow (request 4 tag target sub index [1, b, mode]) = .viewOpenFresh := by
  show (if mode.toNat = 1 then RequestRow.viewOpenEdit else .viewOpenFresh) = .viewOpenFresh
  exact if_neg fun h => hmode (BitVec.eq_of_toNat_eq h)

/-- Settles O38: each mode's effect on the view named, with the tests before it. -/
theorem viewOpenActsByTheViewState : Obligations.ViewOpenActsByTheViewState := by
  intro s t rest tag target sub index v refused inUse guarded opened
  have hv (mode : Byte) : u8 (request 4 tag target sub index [1, byteOf v.val, mode]).payload 1 = v.val := toNat_byteOf_viewNo v
  refine ⟨fun h => ⟨fun hbad => ?_, fun hstate huse => ?_, fun hgood => ?_⟩,
    fun h => ⟨fun hstate => ?_, fun hstate huse => ?_, fun hstate huse => ?_⟩, fun b mode => ⟨fun hb h => ?_, fun hb hmode h => ?_⟩⟩
  · exact exec_request (row := .viewOpenFresh) h rfl rfl (openFreshEffect_badState (hv 0) rfl hbad)
  · exact exec_request (row := .viewOpenFresh) h rfl rfl (openFreshEffect_busy (hv 0) rfl hstate huse)
  · have heffect := openFreshEffect_done (s := s.taken t rest) (hv 0) rfl hgood
    refine ⟨fun hforce => ?_, fun hforce => ?_⟩
    · exact exec_request (row := .viewOpenFresh) h rfl rfl
        (heffect.trans (congrArg (done · []) (State.openFresh_of_not_forced hforce)))
    · exact exec_request (row := .viewOpenFresh) h rfl rfl
        (heffect.trans (congrArg (done · []) (State.openFresh_of_forced hforce)))
  · exact exec_request (row := .viewOpenEdit) h rfl rfl (openEditEffect_badState (hv 1) hstate)
  · refine exec_request (row := .viewOpenEdit) h rfl rfl
      ((openEditEffect_of_withdrawn (s := s.taken t rest) (hv 1) hstate).trans (if_pos ?_))
    exact (State.inUse_iff _ v).mpr huse
  · refine exec_request (row := .viewOpenEdit) h rfl rfl
      ((openEditEffect_of_withdrawn (s := s.taken t rest) (hv 1) hstate).trans (if_neg ?_))
    exact fun h => huse ((State.inUse_iff _ v).mp h)
  · refine ⟨fun hmode => ?_, fun hmode => ?_⟩
    · have hrow := requestRow_viewOpen (tag := tag) (target := target) (sub := sub) (index := index) (b := b) hmode
      refine exec_request (row := .viewOpenFresh) h hrow ?_ (withView_badIndex _ _ hb)
      rw [wholeMessageOk, hrow]
      rfl
    · subst hmode
      exact exec_request (row := .viewOpenEdit) h rfl rfl (withView_badIndex _ _ hb)
  · have hrow := requestRow_viewOpen (tag := tag) (target := target) (sub := sub) (index := index) (b := b) (mode := mode)
      (by rintro rfl; simp at hmode)
    have hview : u8 (request 4 tag target sub index [1, b, mode]).payload 1 = (⟨b.toNat, Nat.lt_succ_of_le hb⟩ : ViewNo).val := rfl
    refine exec_request (row := .viewOpenFresh) h hrow ?_ (openFreshEffect_malformed hview (Nat.ne_zero_of_lt hmode))
    rw [wholeMessageOk, hrow]
    rfl

/-! ## VIEW_FORCE (R127, R128) -/

theorem forceEffect_badIndex {m : Message} {s : State} (h : 7 < u8 m.payload 0) : forceEffect m s = refuse s .badIndex := by
  rw [forceEffect, toFin?_eq_none h]

theorem forceEffect_of_view {m : Message} {s : State} {v : ViewNo} (hv : u8 m.payload 0 = v.val) : forceEffect m s =
    if s.viewValid v then done (s.setSelector { s.selector with forced := some v }) [] else refuse s .badState := by
  rw [forceEffect, hv, toFin?_val]

/-- A view number other than 255 is a force. -/
theorem requestRow_viewForce {tag target sub b : Byte} {index : BitVec 16} (h : b ≠ 255) :
    requestRow (request 7 tag target sub index [b]) = .viewForce := by
  show (if b.toNat = 255 then RequestRow.viewForceRelease else .viewForce) = .viewForce
  exact if_neg fun hb => h (BitVec.eq_of_toNat_eq hb)

theorem wholeMessageOk_viewForce {tag target sub b : Byte} {index : BitVec 16} (h : b ≠ 255) :
    wholeMessageOk (request 7 tag target sub index [b]) = true := by
  rw [wholeMessageOk, requestRow_viewForce h]
  rfl

/-- Settles O41: the force's two branches and its release. -/
theorem viewForceNeedsAValidView : Obligations.ViewForceNeedsAValidView := by
  intro s t rest tag target sub index v b
  have hv : u8 (request 7 tag target sub index [byteOf v.val]).payload 0 = v.val := toNat_byteOf_viewNo v
  have hne : byteOf v.val ≠ 255 := fun h => by
    have hval := toNat_byteOf_viewNo v
    rw [h] at hval
    exact absurd v.isLt (by rw [← hval]; decide)
  refine ⟨fun h => ⟨fun hstate => ?_, fun hstate => ?_⟩, fun hb hrelease h => ?_, fun h => ?_⟩
  · refine exec_request (row := .viewForce) h (requestRow_viewForce hne) (wholeMessageOk_viewForce hne)
      ((forceEffect_of_view hv).trans (if_pos ?_))
    exact (State.viewValid_iff _ v).mpr hstate
  · refine exec_request (row := .viewForce) h (requestRow_viewForce hne) (wholeMessageOk_viewForce hne)
      ((forceEffect_of_view hv).trans (if_neg ?_))
    exact fun h => hstate ((State.viewValid_iff _ v).mp h)
  · exact exec_request (row := .viewForce) h (requestRow_viewForce hrelease) (wholeMessageOk_viewForce hrelease)
      (forceEffect_badIndex hb)
  · exact exec_request (row := .viewForceRelease) h rfl rfl rfl

/-! ## OVERLAY_SWAP (R141, R142) -/

/-- OVERLAY_SWAP by the operating state. -/
theorem swapEffect_of_run (m : Message) {s : State} (h : s.output.opState = .run) : swapEffect m s =
    if s.overlay.swapPending then refuse s .busy
    else ⟨s.setOverlay { s.overlay with swapPending := true }, some (.accepted, [])⟩ := by
  rw [swapEffect, if_pos (s.isRun_iff.mpr h)]

theorem swapEffect_of_config (m : Message) {s : State} (h : s.output.opState = .config) :
    swapEffect m s = done (s.setOverlay s.overlay.swapped) [] := by
  rw [swapEffect, if_neg (State.not_isRun_of_config h)]

/-- Settles O42: the swap pended, refused, or made at once. -/
theorem overlaySwapActsByTheOperatingState : Obligations.OverlaySwapActsByTheOperatingState := by
  intro s t rest tag target sub index h
  refine ⟨fun hrun hfree => ?_, fun hrun hpending => ?_, fun hconfig hfree => ?_⟩
  · have heffect := swapEffect_of_run (request 5 tag target sub index []) (s := s.taken t rest) hrun
    exact exec_request (row := .overlaySwap) h rfl rfl (heffect.trans (if_neg (ne_true_of_eq_false hfree)))
  · have heffect := swapEffect_of_run (request 5 tag target sub index []) (s := s.taken t rest) hrun
    exact exec_request (row := .overlaySwap) h rfl rfl (heffect.trans (if_pos hpending))
  · have hswapped : s.overlay.swapped = { s.overlay with active := s.overlay.active.other } := by
      rw [Overlay.swapped, ← hfree]
    have hexec := exec_request (row := .overlaySwap) (t := t) h rfl rfl (swapEffect_of_config (request 5 tag target sub index []) (s := s.taken t rest) hconfig)
    rw [State.taken_overlay, hswapped] at hexec
    exact hexec

end Sys2Proof.Machine
end

section
/-!
PROOFS. FRAME_OPEN (R5, R11 to R17, R20, R22, R33 to R36): the frame that starts, the camera that wakes, and the filling frame cut off.
-/
namespace Sys2Proof.Machine

/-! ## A frame that starts after the cadence step -/

theorem exec_frameOpen (t : PartTime) (c : Camera) (number : BitVec 16) (s : State) :
    exec (.frameOpen t c number) s = .next ((s.atTime t).frameOpen c number) := rfl

section
variable (s : State) (c : Camera)

theorem State.raised_cameraUpdate (x : Pool × Channel) (ks : List Latch) : s.Raised ks (s.cameraUpdate c x ks) :=
  State.raised_of_latches rfl

theorem State.cameraUpdate_setPool_setChannel (x : Pool × Channel) (p : Pool) (ch : Channel) (ks : List Latch) :
    ((s.cameraUpdate c x ks).setPool p).setChannel c ch = s.cameraUpdate c (p, ch) ks := by
  have h := s.cameraUpdate_cameraUpdate c x (p, ch) ks []
  rwa [List.append_nil] at h

theorem State.cameraUpdate_setChannel (x : Pool × Channel) (ch : Channel) (ks : List Latch) :
    (s.cameraUpdate c x ks).setChannel c ch = s.cameraUpdate c (x.1, ch) ks :=
  s.cameraUpdate_setPool_setChannel c x x.1 ch ks

/-- The cadence step, and then the frame in the lowest FREE slot, else in the oldest READY slot, else skipped. -/
theorem State.takeOpen_startFrame_cases (number : BitVec 16) :
    let o := (s.channel c).opened c s.partTime
    let ks := ((s.channel c).cadenceStep c s.partTime).2
    (∃ k ∈ (s.channel c).record.slotList, s.pool.slot k = .free ∧
      (∀ j ∈ (s.channel c).record.slotList, s.pool.slot j = .free → k ≤ j) ∧
      (s.takeOpen c).startFrame c number =
        s.cameraUpdate c (s.pool.setSlot k (.filling c), { o with filling := some (.start k number) }) ks) ∨
    (∀ j ∈ (s.channel c).record.slotList, s.pool.slot j ≠ .free) ∧
      ((∃ k rest, s.pool.ready.get c = k :: rest ∧ (s.takeOpen c).startFrame c number =
        s.cameraUpdate c ((s.pool.setSlot k (.filling c)).setReady c rest, { o with
          counters := { o.counters with overwritten := raise o.counters.overwritten 1 }
          filling := some (.start k number) }) ks) ∨
        s.pool.ready.get c = [] ∧ (s.takeOpen c).startFrame c number =
          s.cameraUpdate c (s.pool, { o with
            counters := { o.counters with skipped := raise o.counters.skipped 1 }
            filling := none }) (ks ++ [.camSkipped c])) := by
  intro o ks
  have htaken : s.takeOpen c = s.cameraUpdate c (s.pool, o) ks := s.takeOpen_eq c
  have hrecord : o.record = (s.channel c).record := Channel.opened_record _
  have hcases := (s.cameraUpdate c (s.pool, o) ks).startFrame_cases c number
  rw [State.cameraUpdate_channel, State.cameraUpdate_pool, hrecord] at hcases
  rw [htaken]
  rcases hcases with ⟨k, hk, hfree, hlow, he⟩ | ⟨hnone, ⟨k, rest, hready, he⟩ | ⟨hready, he⟩⟩
  · exact .inl ⟨k, hk, hfree, hlow, he.trans (State.cameraUpdate_setPool_setChannel _ _ _ _ _ _)⟩
  · exact .inr ⟨hnone, .inl ⟨k, rest, hready, he.trans (State.cameraUpdate_setPool_setChannel _ _ _ _ _ _)⟩⟩
  · refine .inr ⟨hnone, .inr ⟨hready, he.trans ?_⟩⟩
    rw [State.cameraUpdate_setChannel, State.latched_cameraUpdate]

theorem State.frameOpen_start {number : BitVec 16} (hin : (s.channel c).ingests = true) (hempty : (s.channel c).filling = none) :
    s.frameOpen c number = (s.takeOpen c).startFrame c number := by
  rw [State.frameOpen, if_pos hin, hempty]

theorem State.frameOpen_gap {number : BitVec 16} {f : FillingFrame} (hin : (s.channel c).ingests = true)
    (hfill : (s.channel c).filling = some f) : s.frameOpen c number = s.gapOpen c f number := by
  rw [State.frameOpen, if_pos hin, hfill]

theorem State.frameOpen_wake {number : BitVec 16} (hlost : (s.channel c).state = .lost) : s.frameOpen c number = s.wakeOpen c number := by
  have hin : ¬ (s.channel c).ingests = true := (Channel.not_ingests_iff _).mpr (.inr (.inr hlost))
  rw [State.frameOpen, if_neg hin, if_pos hlost]

/-- FRAME_OPEN changes nothing but its camera's part of the state. -/
theorem State.frameOpen_onlyCamera (t : PartTime) (number : BitVec 16) : s.OnlyCamera c ((s.atTime t).frameOpen c number) :=
  ((s.atTime t).ingested_frameOpen (agree := False) c number False.elim).onlyCamera

end

/-! ## The cadence step of a FRAME_OPEN (R14) -/

theorem CadenceTracker.step_lastOpen (k : CadenceTracker) (t : PartTime) : (k.step t).lastOpen = some t := by
  unfold CadenceTracker.step
  split <;> rfl

theorem Channel.withReasons_cadence (ch : Channel) (r : Reasons) : (ch.withReasons r).cadence = ch.cadence := by
  unfold Channel.withReasons
  split_ifs <;> rfl

theorem Channel.cadenceLoss_lastOpen (c : Camera) (ch : Channel) (m : Option CadenceClass) :
    (ch.cadenceLoss c m).1.cadence.lastOpen = ch.cadence.lastOpen := by
  unfold Channel.cadenceLoss
  split
  · split_ifs
    · rfl
    · rfl
    · dsimp only
      rw [Channel.withReasons_cadence]
  · rfl

theorem Channel.cadenceAdoption_lastOpen (c : Camera) (ch : Channel) :
    (ch.cadenceAdoption c).1.cadence.lastOpen = ch.cadence.lastOpen := by
  unfold Channel.cadenceAdoption
  split
  · split_ifs
    · dsimp only
      split
      · rfl
      · dsimp only
        rw [Channel.withReasons_cadence]
      · rfl
    · rfl
  · rfl

theorem Channel.cadenceStep_lastOpen (c : Camera) (t : PartTime) (ch : Channel) : (ch.cadenceStep c t).1.cadence.lastOpen = some t := by
  unfold Channel.cadenceStep
  dsimp only
  rw [Channel.cadenceAdoption_lastOpen, Channel.cadenceLoss_lastOpen]
  exact CadenceTracker.step_lastOpen _ t

/-- Settles O5: the cadence step first, then the three branches of the allocation. -/
theorem frameOpenAllocatesByTheOrder : Obligations.FrameOpenAllocatesByTheOrder := by
  intro s t c number hin hempty stepped
  have hexec : exec (.frameOpen t c number) s = .next (((s.atTime t).takeOpen c).startFrame c number) :=
    (exec_frameOpen t c number s).trans (congrArg _ ((s.atTime t).frameOpen_start c hin hempty))
  have honly := s.frameOpen_onlyCamera c t number
  rw [(s.atTime t).frameOpen_start c hin hempty] at honly
  have hlast : stepped.1.cadence.lastOpen = some t := Channel.cadenceStep_lastOpen c t _
  obtain ⟨state, reasons, cadence, hstep⟩ := Channel.cadenceStep_frame c t (s.channel c)
  have hframe : stepped.1 = { s.channel c with state := state, reasons := reasons, cadence := cadence } := hstep
  refine ⟨_, hexec, ?_⟩
  rcases (s.atTime t).takeOpen_startFrame_cases c number with ⟨k, hk, hfree, hlow, he⟩ | ⟨hnone, ⟨k, rest, hready, he⟩ | ⟨hready, he⟩⟩ <;>
    rw [he] at honly ⊢
  all_goals
    refine ⟨rfl, honly, ?_⟩
    rw [State.cameraUpdate_channel]
    refine ⟨rfl, rfl, rfl, hlast, (congrArg Channel.lastFrame hframe :), (congrArg Channel.sequence hframe :),
      (congrArg Channel.freeze hframe :), ?_⟩
  · refine .inl ⟨k, hk, hfree, hlow, rfl, Pool.slot_setSlot_same _ _ _, fun j hj => Pool.slot_setSlot_other _ _ hj, rfl, ?_,
      State.raised_cameraUpdate _ _ _ _⟩
    exact (congrArg Channel.counters hframe :)
  · refine .inr ⟨hnone, .inl ⟨k, rest, hready, rfl, Pool.slot_setSlot_same s.pool k (.filling c),
      fun j hj => Pool.slot_setSlot_other s.pool (.filling c) hj, Pool.ready_setReady_same _ _ _, ?_, State.raised_cameraUpdate _ _ _ _⟩⟩
    exact (congrArg (fun x : Channel => { x.counters with overwritten := raise x.counters.overwritten 1 }) hframe :)
  · refine .inr ⟨hnone, .inr ⟨hready, rfl, rfl, ?_, State.raised_cameraUpdate _ _ _ _⟩⟩
    exact (congrArg (fun x : Channel => { x.counters with skipped := raise x.counters.skipped 1 }) hframe :)

/-! ## A LOST camera wakes (R22) -/

/-- A reset tracker ends no interval, so the step only notes the time (R14). -/
theorem Channel.cadenceStep_of_cleared (c : Camera) (t : PartTime) {ch : Channel} (h : ch.cadence = .cleared) :
    ch.cadenceStep c t = ({ ch with cadence := ⟨some t, none, 0, none, 0⟩ }, []) := by
  unfold Channel.cadenceStep
  rw [h]
  rfl

/-- A wake is the cadence step and the start of a frame on the channel woken. -/
theorem State.wakeOpen_eq (s : State) (c : Camera) (number : BitVec 16) :
    s.wakeOpen c number = ((s.setChannel c (s.channel c).woken).takeOpen c).startFrame c number := rfl

/-- Settles O6: the woken channel's cadence step notes the time alone, and the frame starts in a FREE slot or is skipped. -/
theorem frameOpenWakesALostCamera : Obligations.FrameOpenWakesALostCamera := by
  intro s t c number hlost hcleared woken
  have hexec : exec (.frameOpen t c number) s =
      .next ((((s.atTime t).setChannel c (s.channel c).woken).takeOpen c).startFrame c number) := by
    rw [exec_frameOpen, State.frameOpen_wake (s.atTime t) c hlost, State.wakeOpen_eq, State.atTime_channel]
  have hchannel : ((s.atTime t).setChannel c (s.channel c).woken).channel c = (s.channel c).woken :=
    State.channel_setChannel_same _ c _
  have hstep : (s.channel c).woken.cadenceStep c t = _ := Channel.cadenceStep_of_cleared c t hcleared
  have hcases := ((s.atTime t).setChannel c (s.channel c).woken).takeOpen_startFrame_cases c number
  rw [hchannel] at hcases
  simp only [Channel.opened, State.setChannel_partTime, State.atTime_partTime, State.setChannel_pool, State.atTime_pool, hstep] at hcases
  have merge (x : Pool × Channel) (js : List Latch) : ((s.atTime t).setChannel c (s.channel c).woken).cameraUpdate c x js =
      (s.atTime t).cameraUpdate c x js := State.cameraUpdate_cameraUpdate (s.atTime t) c (s.pool, _) x [] js
  rw [hexec]
  rcases hcases with ⟨k, hk, hfree, hlow, he⟩ | ⟨hnone, ⟨k, rest, hready, he⟩ | ⟨hready, he⟩⟩
  · refine ⟨fun j hj hjfree hjlow => ?_, fun hall => absurd hfree (hall k hk)⟩
    have hkj : k = j := le_antisymm (hlow j hj hjfree) (hjlow k hk hfree)
    rw [he, merge, hkj]
    rfl
  · exact ⟨fun j hj hjfree => absurd hjfree (hnone j hj), fun _ hempty => nomatch hready.symm.trans hempty⟩
  · refine ⟨fun j hj hjfree => absurd hjfree (hnone j hj), fun _ _ => ?_⟩
    rw [he, merge]
    rfl

/-! ## A filling frame cut off (R13) -/

/-- GAP joins, and SHORT where the valid lines are few or no line was written (R13). -/
theorem FillingFrame.flagsAtGap_eq (f : FillingFrame) (height : Nat) : f.flagsAtGap height =
    (f.flags ||| 0b100000#6) ||| (if f.validLines < height ∨ f.highest = none then 0b000001#6 else 0) := by
  by_cases h : f.validLines < height ∨ f.highest = none
  · simp [FillingFrame.flagsAtGap, joinFlagIf, FillingFrame.isShort, h]
    rfl
  · simp [FillingFrame.flagsAtGap, joinFlagIf, FillingFrame.isShort, h]
    rfl

section
variable {s : State} {c : Camera} {f : FillingFrame} {number : BitVec 16} {flags : FlagSet}
  (hflags : flags = f.flagsAtGap (s.channel c).record.height)
include hflags

theorem State.gapOpen_halt (hhalt : flags &&& (s.channel c).record.haltMask ≠ 0) : s.gapOpen c f number = s.haltFrame c f := by
  unfold State.gapOpen
  dsimp only
  rw [← hflags, frameOutcome_halt _ hhalt]

theorem State.gapOpen_complete (hhalt : flags &&& (s.channel c).record.haltMask = 0)
    (hkeep : flags &&& ~~~ (s.channel c).record.keepMask = 0) (hwritten : f.highest ≠ none) :
    s.gapOpen c f number = ((s.completeFrame c f flags).takeOpen c).startFrame c number := by
  unfold State.gapOpen
  dsimp only
  rw [← hflags, frameOutcome_complete hhalt hkeep hwritten]

/-- A frame discarded at a gap gives its slot to the new frame at once. -/
theorem State.gapOpen_discard (hhalt : flags &&& (s.channel c).record.haltMask = 0)
    (hbad : ¬ (flags &&& ~~~ (s.channel c).record.keepMask = 0 ∧ f.highest ≠ none)) :
    s.gapOpen c f number = s.cameraUpdate c (s.pool, { (s.channel c).countDiscard.opened c s.partTime with
      filling := some (.start f.slot number) }) ((s.channel c).countDiscard.cadenceStep c s.partTime).2 := by
  unfold State.gapOpen
  dsimp only
  rw [← hflags, frameOutcome_discard hhalt hbad]
  dsimp only
  rw [State.takeOpen_eq, State.channel_setChannel_same, State.cameraUpdate_channel, State.cameraUpdate_setChannel]
  exact s.cameraUpdate_cameraUpdate c (s.pool, _) _ [] _

end

/-! ### The cadence step does not look at the counters -/

section
variable (ch : Channel) (n : Counters)

theorem Channel.withReasons_counters (r : Reasons) :
    Channel.withReasons { ch with counters := n } r = { ch.withReasons r with counters := n } := by
  have huse : Channel.inUse { ch with counters := n } = ch.inUse := rfl
  unfold Channel.withReasons
  rw [huse]
  split_ifs <;> rfl

theorem Channel.cadenceLoss_counters (c : Camera) (m : Option CadenceClass) :
    Channel.cadenceLoss c { ch with counters := n } m =
      ({ (ch.cadenceLoss c m).1 with counters := n }, (ch.cadenceLoss c m).2) := by
  unfold Channel.cadenceLoss
  dsimp only
  split
  · split_ifs
    · rfl
    · rfl
    · exact Prod.ext (Channel.withReasons_counters { ch with cadence := { ch.cadence with adopted := none, outside := 0 } } n _) rfl
  · rfl

theorem Channel.cadenceAdoption_counters (c : Camera) :
    Channel.cadenceAdoption c { ch with counters := n } =
      ({ (ch.cadenceAdoption c).1 with counters := n }, (ch.cadenceAdoption c).2) := by
  unfold Channel.cadenceAdoption
  dsimp only
  split
  · rename_i cls _ _
    split_ifs
    · split
      · rfl
      · exact Prod.ext
          (Channel.withReasons_counters { ch with cadence := { ch.cadence with adopted := some cls, outside := 0 } } n _) rfl
      · rfl
    · rfl
  · rfl

theorem Channel.cadenceStep_counters (c : Camera) (t : PartTime) :
    Channel.cadenceStep c t { ch with counters := n } =
      ({ (ch.cadenceStep c t).1 with counters := n }, (ch.cadenceStep c t).2) := by
  unfold Channel.cadenceStep
  dsimp only
  rw [Channel.cadenceLoss_counters { ch with cadence := ch.cadence.step t } n, Channel.cadenceAdoption_counters]

end

/-! ### A frame that completes at a gap -/

section
variable (s : State) (c : Camera) (f : FillingFrame) (flags : FlagSet)

/-- The channel and the causes of the completion, with its freeze check (R12, R17). -/
def State.checkedAtGap : Channel × List Latch :=
  ((s.channel c).afterCompletion (f.completedRecord c (s.channel c) s.partTime flags)).freezeCheck c f.signature

/-- The channel after the completion and the cadence step of the new frame, which fills slot `k` (R5, R13). -/
def State.openedAtGap (k : SlotNo) (number : BitVec 16) (n : Counters) : Channel :=
  { ((s.checkedAtGap c f flags).1.cadenceStep c s.partTime).1 with
    lossTimer := some s.partTime
    filling := some (.start k number)
    counters := n }

/-- The causes of the completion and of the cadence step. -/
def State.causesAtGap : List Latch :=
  (s.checkedAtGap c f flags).2 ++ ((s.checkedAtGap c f flags).1.cadenceStep c s.partTime).2

/-- What the two checks keep of the completion. -/
theorem State.checkedAtGap_fields :
    (s.checkedAtGap c f flags).1.record = (s.channel c).record ∧
      (s.checkedAtGap c f flags).1.sequence = (s.channel c).sequence + 1 ∧
      (s.checkedAtGap c f flags).1.counters = { (s.channel c).counters with completed := raise (s.channel c).counters.completed 1 } ∧
      (s.checkedAtGap c f flags).1.lastFrame = f.completedRecord c (s.channel c) s.partTime flags := by
  obtain ⟨hrecord, -, hsequence, hcounters, hlast⟩ :=
    Channel.freezeCheck_afterCompletion c (s.channel c) (f.completedRecord c (s.channel c) s.partTime flags) f.signature
  exact ⟨hrecord, hsequence, hcounters, hlast⟩

theorem State.openedAtGap_fields (k : SlotNo) (number : BitVec 16) (n : Counters) :
    (s.openedAtGap c f flags k number n).lastFrame = f.completedRecord c (s.channel c) s.partTime flags ∧
      (s.openedAtGap c f flags k number n).sequence = (s.channel c).sequence + 1 := by
  obtain ⟨-, hsequence, -, hlast⟩ := s.checkedAtGap_fields c f flags
  obtain ⟨_, _, _, hframe⟩ := Channel.cadenceStep_frame c s.partTime (s.checkedAtGap c f flags).1
  exact ⟨((congrArg Channel.lastFrame hframe).trans hlast :), ((congrArg Channel.sequence hframe).trans hsequence :)⟩

/-- The completed frame's slot is READY and the oldest or a FREE slot takes the new frame: the camera's own ready list is not empty, so
no frame is skipped. -/
theorem State.completeFrame_startFrame_cases (number : BitVec 16) :
    let p := s.pool.complete f.slot (f.completedRecord c (s.channel c) s.partTime flags)
    let n : Counters := { (s.channel c).counters with completed := raise (s.channel c).counters.completed 1 }
    (∃ k ∈ (s.channel c).record.slotList, k ≠ f.slot ∧ s.pool.slot k = .free ∧
      (∀ j ∈ (s.channel c).record.slotList, j ≠ f.slot → s.pool.slot j = .free → k ≤ j) ∧
      ((s.completeFrame c f flags).takeOpen c).startFrame c number =
        s.cameraUpdate c (p.setSlot k (.filling c), s.openedAtGap c f flags k number n) (s.causesAtGap c f flags)) ∨
    (∀ j ∈ (s.channel c).record.slotList, j ≠ f.slot → s.pool.slot j ≠ .free) ∧
      ∃ k rest, s.pool.ready.get c ++ [f.slot] = k :: rest ∧ ((s.completeFrame c f flags).takeOpen c).startFrame c number =
        s.cameraUpdate c ((p.setSlot k (.filling c)).setReady c rest,
          s.openedAtGap c f flags k number { n with overwritten := raise n.overwritten 1 }) (s.causesAtGap c f flags) := by
  intro p n
  have hcomplete : s.completeFrame c f flags = s.cameraUpdate c (p, (s.checkedAtGap c f flags).1) (s.checkedAtGap c f flags).2 :=
    s.completeFrame_eq c f flags
  obtain ⟨hrecord, -, hcounters, -⟩ := s.checkedAtGap_fields c f flags
  obtain ⟨_, _, _, hframe⟩ := Channel.cadenceStep_frame c s.partTime (s.checkedAtGap c f flags).1
  have hopened : ((s.checkedAtGap c f flags).1.opened c s.partTime).counters = n :=
    ((congrArg Channel.counters hframe).trans hcounters :)
  have hslot : p.slot f.slot ≠ .free := by
    rw [Pool.slot_complete_same]
    exact nofun
  have hother (j : SlotNo) (hj : j ≠ f.slot) : p.slot j = s.pool.slot j := Pool.slot_complete_other _ _ hj
  have hready : p.ready.get c = s.pool.ready.get c ++ [f.slot] :=
    Pool.ready_complete_same s.pool f.slot (f.completedRecord c (s.channel c) s.partTime flags)
  have hcases := (s.cameraUpdate c (p, (s.checkedAtGap c f flags).1) (s.checkedAtGap c f flags).2).takeOpen_startFrame_cases c number
  simp only [State.cameraUpdate_channel, State.cameraUpdate_pool, State.cameraUpdate_partTime, State.cameraUpdate_cameraUpdate,
    hrecord, hopened] at hcases
  rw [hcomplete]
  rcases hcases with ⟨k, hk, hfree, hlow, he⟩ | ⟨hnone, ⟨k, rest, hlist, he⟩ | ⟨hlist, -⟩⟩
  · have hkf : k ≠ f.slot := fun h => hslot (h ▸ hfree)
    refine .inl ⟨k, hk, hkf, hother k hkf ▸ hfree, fun j hj hjf hjfree => hlow j hj ((hother j hjf).trans hjfree), he.trans ?_⟩
    rw [State.openedAtGap, ← hopened]
    rfl
  · refine .inr ⟨fun j hj hjf => hother j hjf ▸ hnone j hj, k, rest, hready ▸ hlist, he⟩
  · rw [hready] at hlist
    simp at hlist

end

/-- The slots after a completion and the start of a frame in slot `k`. -/
theorem Pool.slot_complete_setSlot (p : Pool) (j k : SlotNo) (frame : FrameRecord) (c : Camera) :
    let q := (p.complete j frame).setSlot k (.filling c)
    q.slot k = .filling c ∧ (k ≠ j → q.slot j = .ready frame.camera frame false) ∧ ∀ i, i ≠ k → i ≠ j → q.slot i = p.slot i := by
  intro q
  refine ⟨Pool.slot_setSlot_same _ _ _, fun hkj => ?_, fun i hik hij => ?_⟩
  · exact (Pool.slot_setSlot_other _ _ (Ne.symm hkj)).trans (Pool.slot_complete_same _ _ _)
  · exact (Pool.slot_setSlot_other _ _ hik).trans (Pool.slot_complete_other _ _ hij)

/-- Settles O7: the outcome R11 gives at the gap, and the new frame that starts where the channel goes on. -/
theorem gapEndsTheFillingFrame : Obligations.GapEndsTheFillingFrame := by
  intro s t c number f flags hin hfill hflags
  rw [← FillingFrame.flagsAtGap_eq] at hflags
  have hexec : exec (.frameOpen t c number) s = .next ((s.atTime t).gapOpen c f number) :=
    (exec_frameOpen t c number s).trans (congrArg _ ((s.atTime t).frameOpen_gap c hin hfill))
  have honly := s.frameOpen_onlyCamera c t number
  have hpixels := (s.atTime t).gapOpen_pixels c f number
  rw [(s.atTime t).frameOpen_gap c hin hfill] at honly
  refine ⟨_, hexec, ?_, honly, hpixels, ?_⟩
  · exact State.Ingested.partTime ((s.atTime t).ingested_gapOpen (agree := False) c f number hin hfill)
  by_cases hhalt : flags &&& (s.channel c).record.haltMask = 0
  case neg =>
    have hleft := (s.pool.setSlot f.slot .free).left_leave c
    rw [State.gapOpen_halt (s := s.atTime t) hflags hhalt, State.haltFrame_eq]
    refine ⟨fun _ => ⟨State.channel_setChannel_same _ _ _, ?_, hleft.list, hleft, rfl⟩, fun h => absurd h hhalt,
      fun h => absurd h hhalt, fun h => absurd h hhalt⟩
    exact Pool.slot_leave_of_free _ _ (Pool.slot_setSlot_same _ _ _)
  case pos =>
    by_cases hgood : flags &&& ~~~ (s.channel c).record.keepMask = 0 ∧ f.highest ≠ none
    case neg =>
      have hstep := Channel.cadenceStep_counters (s.channel c)
        { (s.channel c).counters with discarded := raise (s.channel c).counters.discarded 1 } c t
      rw [State.gapOpen_discard (s := s.atTime t) hflags hhalt hgood, State.cameraUpdate_channel]
      refine ⟨fun h => absurd hhalt h, fun _ => ⟨rfl, Channel.cadenceStep_lastOpen c t _⟩, fun _ _ => ⟨rfl, ?_, ?_⟩,
        fun _ hkeep hwritten => absurd ⟨hkeep, hwritten⟩ hgood⟩
      · exact State.raised_of_latches (congrArg (fun x : Channel × List Latch => setLatches s.mgmt.latches x.2) hstep :)
      · exact (congrArg (fun x : Channel × List Latch => { x.1 with
          lossTimer := some t, filling := some (FillingFrame.start f.slot number) }) hstep :)
    case pos =>
      obtain ⟨hkeep, hwritten⟩ := hgood
      rw [State.gapOpen_complete (s := s.atTime t) hflags hhalt hkeep hwritten]
      have hbad : ¬ (flags &&& ~~~ (s.channel c).record.keepMask ≠ 0 ∨ f.highest = none) := fun h => h.elim (absurd hkeep) hwritten
      rcases (s.atTime t).completeFrame_startFrame_cases c f flags number with
        ⟨k, hk, hkf, hfree, hlow, he⟩ | ⟨hnone, k, rest, hlist, he⟩ <;> rw [he]
      all_goals
        refine ⟨fun h => absurd hhalt h, fun _ => ?_, fun _ h => absurd h hbad, fun _ _ _ => ?_⟩
        · rw [State.cameraUpdate_channel]
          exact ⟨rfl, Channel.cadenceStep_lastOpen c t _⟩
        intro frame counters checked stepped opened
        rw [State.cameraUpdate_channel]
        obtain ⟨hfilled, hkept, hothers⟩ := Pool.slot_complete_setSlot s.pool f.slot k frame c
      · obtain ⟨hlast, hsequence⟩ := (s.atTime t).openedAtGap_fields c f flags k number counters
        exact ⟨hlast, hsequence, State.raised_cameraUpdate _ _ _ _, .inl ⟨k, hk, hkf, hfree, hlow, rfl, hfilled, hkept hkf, hothers,
          Pool.ready_complete_same s.pool f.slot frame⟩⟩
      · obtain ⟨hlast, hsequence⟩ := (s.atTime t).openedAtGap_fields c f flags k number
          { counters with overwritten := raise (s.channel c).counters.overwritten 1 }
        exact ⟨hlast, hsequence, State.raised_cameraUpdate _ _ _ _, .inr ⟨hnone, k, rest, hlist, rfl, hfilled, hkept, hothers,
          Pool.ready_setReady_same ((s.pool.complete f.slot frame).setSlot k (.filling c)) c rest⟩⟩

end Sys2Proof.Machine
end

section
/-!
PROOFS. LINE (R1, R6 to R9): the mark discarded as LONG or ORDER, the line written, and the missing and bad lines concealed.
-/
namespace Sys2Proof.Machine

/-! ## Every eighth column (R9) -/

/-- The columns 0, 8, 16 and so on below a width are the multiples of 8 there. -/
theorem filter_range_mod_eight (w : Nat) : ((List.range w).filter fun i => i % 8 = 0) = (List.range ((w + 7) / 8)).map (8 * ·) := by
  induction w with
  | zero => rfl
  | succ w ih =>
    rw [List.range_succ, List.filter_append, ih]
    by_cases h : w % 8 = 0
    · have hcount : (w + 1 + 7) / 8 = (w + 7) / 8 + 1 := by omega
      have hlast : 8 * ((w + 7) / 8) = w := by omega
      simp [hcount, List.range_succ, h, hlast]
    · have hcount : (w + 1 + 7) / 8 = (w + 7) / 8 := by omega
      simp [hcount, h]

theorem signatureOfLine_eq (w : Nat) (px : List Pixel) : signatureOfLine w px =
    (((List.range w).filter fun i => i % 8 = 0).map fun i => (px.getD i unwrittenPixel).y.toNat).sum := by
  rw [filter_range_mod_eight, signatureOfLine, List.map_map]
  rfl

/-! ## A line as it stands in a slot (R29) -/

section
variable (p : Pool) (k : SlotNo) (n : Nat) (px : List Pixel)

theorem Pool.row_writeLine_same : (p.writeLine k n px).row k n = px ++ (p.row k n).drop px.length := by
  rw [Pool.row_writeLine, if_pos rfl]

theorem Pool.row_writeLine_other {j : SlotNo} {l : Nat} (hn : n < 1080) (hl : l < 1080) (h : j ≠ k ∨ l ≠ n) :
    (p.writeLine k n px).row j l = p.row j l := by
  rw [Pool.row_writeLine, if_neg]
  rw [rowNumber_inj hl hn, not_and_or]
  exact h

theorem Pool.pixel_writeLine_same {i : Nat} (hi : i < px.length) :
    (p.writeLine k n px).pixel k i n = px.getD i unwrittenPixel := by
  rw [Pool.pixel, Pool.row_writeLine_same, List.getD_append _ _ _ _ hi]

theorem Pool.readLine_writeLine_same {w : Nat} (hw : px.length = w) : (p.writeLine k n px).readLine k n w = px := by
  rw [Pool.readLine, Pool.row_writeLine_same, List.append_assoc, ← hw, List.take_left]

theorem Pool.readLine_length (w : Nat) : (p.readLine k n w).length = w := by
  simp [Pool.readLine]

theorem Pool.readLine_of_row {q : Pool} {k : SlotNo} {l : Nat} (h : q.row k l = p.row k l) (w : Nat) :
    q.readLine k l w = p.readLine k l w := by
  rw [Pool.readLine, Pool.readLine, h]

end

/-! ## The mark (R6) -/

theorem exec_line (t : PartTime) (c : Camera) (n : BitVec 16) (samples : LineSamples) (good : Bool) (s : State) :
    exec (.line t c n samples good) s = .next ((s.atTime t).line c n samples good) := rfl

theorem State.line_filling {s : State} {c : Camera} {f : FillingFrame} (hin : (s.channel c).ingests = true)
    (hfill : (s.channel c).filling = some f) (n : BitVec 16) (samples : LineSamples) (good : Bool) :
    s.line c n samples good =
      (s.setPool (lineMark (s.channel c).record n.toNat (pixelsOf samples) good (s.pool, f)).1).setChannel c
        { s.channel c with filling := some (lineMark (s.channel c).record n.toNat (pixelsOf samples) good (s.pool, f)).2 } := by
  unfold State.line
  simp only [hin, hfill]

section
variable {r : CameraRecord} {n : Nat} {px : List Pixel} {good : Bool} {p : Pool} {f : FillingFrame}

theorem lineMark_long (h : r.height ≤ n) :
    lineMark r n px good (p, f) = (p, { f with received := f.received + 1, flags := f.flags ||| 0b000010#6 }) := if_pos h

theorem lineMark_order (h : n < r.height) (horder : n < f.expected) :
    lineMark r n px good (p, f) = (p, { f with received := f.received + 1, flags := f.flags ||| 0b001000#6 }) :=
  (if_neg (Nat.not_le.mpr h)).trans (if_pos horder)

theorem lineMark_take (h : n < r.height) (hnext : f.expected ≤ n) :
    lineMark r n px good (p, f) = takeLine r.width n px good (p, { f with received := f.received + 1 }) :=
  (if_neg (Nat.not_le.mpr h)).trans (if_neg (Nat.not_lt.mpr hnext))

end

section
variable {w n : Nat} {px : List Pixel} {good : Bool} {x : Pool × FillingFrame}

/-- A whole good line is written after the missing lines (R7, R8). -/
theorem takeLine_good (hgood : good = true) (hw : px.length = w) {filled : Pool × FillingFrame}
    (hfilled : fillMissing w (n - x.2.expected) x.2.expected x = filled) : takeLine w n px good x =
      ((fillLine w n px filled).1, { (fillLine w n px filled).2 with expected := n + 1 }) := by
  subst hfilled
  unfold takeLine
  dsimp only
  rw [if_pos ⟨hgood, hw⟩]

/-- A frame with a line that was not good (R8). -/
def FillingFrame.lineBad (f : FillingFrame) : FillingFrame := { f with flags := joinFlag f.flags .lineBad }

/-- A bad or ill-sized line is concealed after the missing lines (R7, R8). -/
theorem takeLine_bad (h : ¬ (good = true ∧ px.length = w)) {filled : Pool × FillingFrame}
    (hfilled : fillMissing w (n - x.2.expected) x.2.expected x = filled) : takeLine w n px good x =
      ((fillLine w n (lineAbove w n filled) filled).1,
        { (fillLine w n (lineAbove w n filled) filled).2.lineBad with expected := n + 1 }) := by
  subst hfilled
  unfold takeLine
  dsimp only
  rw [if_neg h]
  rfl

theorem takeLine_expected {f : FillingFrame} {p : Pool} (hn : n = f.expected) (hgood : good = true) (hw : px.length = w) :
    takeLine w n px good (p, f) = (p.writeLine f.slot n px, { f.wrote w n px with expected := n + 1 }) := by
  have hfilled : fillMissing w (n - f.expected) f.expected (p, f) = (p, f) := by
    rw [hn, Nat.sub_self]
    rfl
  exact takeLine_good (x := (p, f)) hgood hw hfilled

end

/-- Settles O8: the three branches of the mark, and the line written as the pool's own write. -/
theorem lineMarkIsWrittenOrDiscarded : Obligations.LineMarkIsWrittenOrDiscarded := by
  intro s t c n f px good hin hfill
  have hline : exec (.line t c n (.perPixel px) good) s = _ :=
    (exec_line t c n (.perPixel px) good s).trans (congrArg _ (State.line_filling (s := s.atTime t) hin hfill n (.perPixel px) good))
  have honly := ((s.atTime t).ingested_line (agree := True) c n (.perPixel px) good).onlyCamera
  rw [State.line_filling (s := s.atTime t) hin hfill] at honly
  refine ⟨fun hlong => ?_, fun hheight horder => ?_, fun hheight hmax hn hgood hw => ?_, fun pairs => rfl⟩
  · rw [hline, State.atTime_channel, lineMark_long hlong]
    rfl
  · rw [hline, State.atTime_channel, lineMark_order hheight horder]
    rfl
  · have hwidth : (pixelsOf (.perPixel px)).length = (s.channel c).record.width := hw
    have hlines : n.toNat < 1080 := hheight.trans_le hmax
    rw [hline]
    refine ⟨_, rfl, rfl, honly, rfl, ?_⟩
    rw [State.atTime_channel, lineMark_take hheight hn.ge, takeLine_expected (f := { f with received := f.received + 1 }) hn hgood hwidth]
    refine ⟨rfl, rfl, ?_, fun i hi => Pool.pixel_writeLine_same _ _ _ _ hi, fun k l i hl hkl => Pool.pixel_of_row ?_ i⟩
    · rw [State.channel_setChannel_same, FillingFrame.wrote, signatureOfLine_eq, ← hw]
      rfl
    · refine Pool.row_writeLine_other _ _ _ _ hlines hl (not_and_or.mp fun ⟨hk, hl⟩ => hkl ?_)
      rw [hk, hl]

end Sys2Proof.Machine
end

section
/-!
PROOFS. Missing and bad lines (R7 to R9): each line of a frame from the expected one to the marked one is written, and every eighth is summed
into the signature as it then stands in the slot.
-/
namespace Sys2Proof.Machine

/-! ## Consecutive lines written -/

/-- The luma of every eighth column below a width of a line as it stands in a slot. -/
def Pool.lineSum (p : Pool) (k : SlotNo) (w l : Nat) : Nat :=
  (((List.range w).filter fun i => i % 8 = 0).map fun i => (p.pixel k i l).y.toNat).sum

/-- The sum over every eighth line from `e` on, below `n`. -/
def Pool.linesSum (p : Pool) (k : SlotNo) (w e n : Nat) : Nat :=
  (((List.range' e (n - e)).filter fun l => l % 8 = 0).map fun l => p.lineSum k w l).sum

/-- Lines `e` to `n - 1` of the filling frame are written and summed, and no other line is. -/
structure LinesWritten (w e n : Nat) (x y : Pool × FillingFrame) : Prop where
  frame : ∃ highest, y.2 = { x.2 with
    highest := highest
    signature := x.2.signature + BitVec.ofNat 16 (y.1.linesSum x.2.slot w e n) }
  rows : ∀ k l, l < 1080 → (k ≠ x.2.slot ∨ l < e ∨ n ≤ l) → y.1.row k l = x.1.row k l

theorem Pool.lineSum_of_row {p q : Pool} {k : SlotNo} {l : Nat} (w : Nat) (h : q.row k l = p.row k l) : q.lineSum k w l = p.lineSum k w l := by
  unfold Pool.lineSum
  simp only [Pool.pixel_of_row h]

theorem Pool.linesSum_of_rows {p q : Pool} {k : SlotNo} {e n : Nat} (w : Nat) (h : ∀ l, e ≤ l → l < n → q.row k l = p.row k l) :
    q.linesSum k w e n = p.linesSum k w e n := by
  unfold Pool.linesSum
  refine congrArg List.sum (List.map_congr_left fun l hl => Pool.lineSum_of_row w ?_)
  obtain ⟨hlo, hhi⟩ := List.mem_range'_1.mp (List.mem_filter.mp hl).1
  exact h l hlo (by omega)

theorem Pool.linesSum_append (p : Pool) (k : SlotNo) (w : Nat) {e m n : Nat} (hem : e ≤ m) (hmn : m ≤ n) :
    p.linesSum k w e n = p.linesSum k w e m + p.linesSum k w m n := by
  have hsplit : List.range' e (n - e) = List.range' e (m - e) ++ List.range' m (n - m) := by
    have h := List.range'_append_1 (s := e) (m := m - e) (n := n - m)
    rwa [show e + (m - e) = m by omega, show m - e + (n - m) = n - e by omega, eq_comm] at h
  rw [Pool.linesSum, hsplit, List.filter_append, List.map_append, List.sum_append]
  rfl

theorem LinesWritten.slot {w e n : Nat} {x y : Pool × FillingFrame} (h : LinesWritten w e n x y) : y.2.slot = x.2.slot := by
  obtain ⟨_, hframe⟩ := h.frame
  rw [hframe]

theorem LinesWritten.none (w n : Nat) (x : Pool × FillingFrame) : LinesWritten w n n x x := by
  refine ⟨⟨x.2.highest, ?_⟩, fun _ _ _ _ => rfl⟩
  have hsum : x.1.linesSum x.2.slot w n n = 0 := by simp [Pool.linesSum]
  rw [hsum]
  simp

theorem LinesWritten.trans {w e m n : Nat} {x y z : Pool × FillingFrame} (hem : e ≤ m) (hmn : m ≤ n) (hn : n ≤ 1080)
    (h : LinesWritten w e m x y) (h' : LinesWritten w m n y z) : LinesWritten w e n x z := by
  have hslot := h.slot
  obtain ⟨⟨_, hy⟩, hrows⟩ := h
  obtain ⟨⟨highest, hz⟩, hrows'⟩ := h'
  refine ⟨⟨highest, ?_⟩, fun k l hl hk => ?_⟩
  · have hkept : z.1.linesSum x.2.slot w e m = y.1.linesSum x.2.slot w e m :=
      Pool.linesSum_of_rows w fun l _ hlm => hrows' _ l (by omega) (.inr (.inl hlm))
    rw [hz, hslot, Pool.linesSum_append _ _ _ hem hmn, hkept, hy, BitVec.ofNat_add, BitVec.add_assoc]
  · have hk' : k ≠ y.2.slot ∨ l < m ∨ n ≤ l := hslot ▸ hk.imp_right (Or.imp_left fun h => h.trans_le hem)
    exact (hrows' k l hl hk').trans (hrows k l hl (hk.imp_right (Or.imp_right hmn.trans)))

/-- One line written with as many pixels as the width. -/
theorem fillLine_written {w n : Nat} {px : List Pixel} (x : Pool × FillingFrame) (hn : n < 1080) (hw : px.length = w) :
    LinesWritten w n (n + 1) x (fillLine w n px x) := by
  refine ⟨⟨some n, ?_⟩, fun k l hl hk => Pool.row_writeLine_other _ _ _ _ hn hl (hk.imp_right fun h => by omega)⟩
  have hsum : (fillLine w n px x).1.lineSum x.2.slot w n = signatureOfLine w px := by
    rw [signatureOfLine_eq, Pool.lineSum]
    refine congrArg List.sum (List.map_congr_left fun i hi => ?_)
    have hlt : i < px.length := hw ▸ List.mem_range.mp (List.mem_filter.mp hi).1
    rw [fillLine, Pool.pixel_writeLine_same _ _ _ _ hlt]
  have hone : (fillLine w n px x).1.linesSum x.2.slot w n (n + 1) = if n % 8 = 0 then signatureOfLine w px else 0 := by
    unfold Pool.linesSum
    rw [Nat.add_sub_cancel_left, List.range'_one]
    split_ifs with h8
    · simp [h8, hsum]
    · simp [h8]
  rw [hone, fillLine, FillingFrame.wrote]
  split_ifs <;> simp

theorem lastLine_length (w : Nat) (x : Pool × FillingFrame) : (lastLine w x).length = w := by
  unfold lastLine
  split
  · exact List.length_replicate
  · exact Pool.readLine_length _ _ _ w

/-- After a line of the width, it is the last line written. -/
theorem lastLine_fillLine {w n : Nat} {px : List Pixel} (x : Pool × FillingFrame) (hw : px.length = w) :
    lastLine w (fillLine w n px x) = px :=
  Pool.readLine_writeLine_same _ _ _ _ hw

theorem fillMissing_written {w count n : Nat} (x : Pool × FillingFrame) (hn : n + count ≤ 1080) :
    LinesWritten w n (n + count) x (fillMissing w count n x) := by
  induction count generalizing n x with
  | zero => exact .none w n x
  | succ count ih =>
    have hrest := ih (n := n + 1) (fillLine w n (lastLine w x) x) (by omega)
    rw [show n + 1 + count = n + (count + 1) by omega] at hrest
    exact (fillLine_written x (by omega) (lastLine_length w x)).trans (by omega) (by omega) hn hrest

/-- Every missing line is a copy of the last line written before them (R7). -/
theorem fillMissing_readLine {w count n l : Nat} (x : Pool × FillingFrame) (hn : n + count ≤ 1080) (hl : n ≤ l) (hlt : l < n + count) :
    (fillMissing w count n x).1.readLine x.2.slot l w = lastLine w x := by
  induction count generalizing n x with
  | zero => omega
  | succ count ih =>
    have hwidth := lastLine_length w x
    rcases Nat.eq_or_lt_of_le hl with rfl | hlater
    · have hrest := fillMissing_written (w := w) (count := count) (n := n + 1) (fillLine w n (lastLine w x) x) (by omega)
      have hrow := hrest.rows x.2.slot n (by omega) (.inr (.inl (Nat.lt_succ_self n)))
      exact (Pool.readLine_of_row _ hrow w).trans (Pool.readLine_writeLine_same _ _ _ _ hwidth)
    · exact (ih (fillLine w n (lastLine w x) x) (by omega) hlater (by omega)).trans (lastLine_fillLine x hwidth)

theorem lineAbove_length (w n : Nat) (x : Pool × FillingFrame) : (lineAbove w n x).length = w := by
  unfold lineAbove
  split_ifs
  · exact List.length_replicate
  · exact Pool.readLine_length _ _ _ w

/-! ## The line taken, good or concealed -/

section
variable {w n : Nat} {px : List Pixel} {p : Pool} {f : FillingFrame} (hnext : f.expected ≤ n) (hn : n < 1080)
include hnext hn

/-- The missing lines before a marked line. -/
theorem fillMissing_before : LinesWritten w f.expected n (p, f) (fillMissing w (n - f.expected) f.expected (p, f)) := by
  have h := fillMissing_written (w := w) (count := n - f.expected) (n := f.expected) (p, f) (by omega)
  rwa [Nat.add_sub_cancel' hnext] at h

variable (hw : px.length = w)
include hw

/-- The marked line written with pixels of the width, after the missing lines before it (R7, R9). -/
theorem fillLine_after_missing :
    let filled := fillMissing w (n - f.expected) f.expected (p, f)
    let y := fillLine w n px filled
    y.2 = { f with
      highest := some n
      signature := f.signature + BitVec.ofNat 16 (y.1.linesSum f.slot w f.expected (n + 1)) } ∧
    (∀ k l, l < 1080 → (k ≠ f.slot ∨ l < f.expected ∨ n < l) → y.1.row k l = p.row k l) ∧
    (∀ l, f.expected ≤ l → l < n → y.1.readLine f.slot l w = lastLine w (p, f)) ∧
    (∀ l, l < n → y.1.readLine f.slot l w = filled.1.readLine f.slot l w) ∧ y.1.readLine f.slot n w = px := by
  intro filled y
  have hfilled : LinesWritten w f.expected n (p, f) filled := fillMissing_before hnext hn
  have hslot : filled.2.slot = f.slot := hfilled.slot
  have hwritten := fillLine_written filled hn hw
  have hbelow (l : Nat) (hl : l < n) : y.1.readLine f.slot l w = filled.1.readLine f.slot l w :=
    Pool.readLine_of_row _ (hwritten.rows f.slot l (by omega) (.inr (.inl hl))) w
  obtain ⟨⟨highest, hframe⟩, hrows⟩ := hfilled.trans hnext (Nat.le_succ n) hn hwritten
  refine ⟨?_, hrows, fun l hl hln => ?_, hbelow, ?_⟩
  · have hhighest : some n = highest := congrArg FillingFrame.highest hframe
    rw [hhighest]
    exact hframe
  · exact (hbelow l hln).trans (fillMissing_readLine (p, f) (by omega) hl (by omega))
  · rw [← hslot]
    exact Pool.readLine_writeLine_same _ _ _ _ hw

end

/-- A line below height and not below the expected one: the lines from the expected one to it are written, the missing ones as copies of
the last line written, and it is what was sent, or a copy of the line above where that is bad (R7 to R9). -/
structure LineTaken (w n : Nat) (px : List Pixel) (good : Bool) (p : Pool) (f : FillingFrame) (y : Pool × FillingFrame) : Prop where
  pool : y.1.slots = p.slots ∧ y.1.ready = p.ready
  frame : y.2 = { f with
    expected := n + 1
    highest := some n
    flags := if good = true ∧ px.length = w then f.flags else f.flags ||| 0b000100#6
    signature := f.signature + BitVec.ofNat 16 (y.1.linesSum f.slot w f.expected (n + 1)) }
  rows : ∀ k l, l < 1080 → (k ≠ f.slot ∨ l < f.expected ∨ n < l) → y.1.row k l = p.row k l
  missing : ∀ l, f.expected ≤ l → l < n → y.1.readLine f.slot l w = lastLine w (p, f)
  whole : good = true ∧ px.length = w → y.1.readLine f.slot n w = px
  concealed : ¬ (good = true ∧ px.length = w) →
    y.1.readLine f.slot n w = if n = 0 then List.replicate w ⟨512, 512, 512⟩ else y.1.readLine f.slot (n - 1) w

/-- What `takeLine` does, in both of its branches. -/
theorem lineTaken_takeLine {w n : Nat} {px : List Pixel} {good : Bool} {p : Pool} {f : FillingFrame} (hnext : f.expected ≤ n)
    (hn : n < 1080) : LineTaken w n px good p f (takeLine w n px good (p, f)) := by
  generalize hfilled : fillMissing w (n - f.expected) f.expected (p, f) = filled
  have hslot : filled.2.slot = f.slot := hfilled ▸ fillMissing_slot _ _ _ _
  have hpool : filled.1 = { p with pixels := filled.1.pixels } := hfilled ▸ fillMissing_pool _ _ _ _
  have hkept : filled.1.slots = p.slots ∧ filled.1.ready = p.ready := ⟨(congrArg Pool.slots hpool :), (congrArg Pool.ready hpool :)⟩
  by_cases hgood : good = true ∧ px.length = w
  · obtain ⟨hframe, hrows, hmissing, -, hline⟩ := fillLine_after_missing (p := p) hnext hn hgood.2
    rw [hfilled] at hframe hrows hmissing hline
    rw [takeLine_good hgood.1 hgood.2 hfilled]
    refine ⟨hkept, ?_, hrows, hmissing, fun _ => hline, fun h => absurd hgood h⟩
    rw [if_pos hgood]
    exact (congrArg (fun g : FillingFrame => { g with expected := n + 1 }) hframe :)
  · obtain ⟨hframe, hrows, hmissing, hbelow, hline⟩ := fillLine_after_missing (p := p) hnext hn (lineAbove_length w n filled)
    rw [hfilled] at hframe hrows hmissing hbelow hline
    rw [takeLine_bad hgood hfilled]
    refine ⟨hkept, ?_, hrows, hmissing, fun h => absurd h hgood, fun _ => hline.trans ?_⟩
    · rw [if_neg hgood]
      exact (congrArg (fun g : FillingFrame => { g.lineBad with expected := n + 1 }) hframe :)
    · by_cases h0 : n = 0
      · rw [lineAbove, if_pos h0, if_pos h0, greyLine]
      · rw [hbelow (n - 1) (by omega), if_neg h0, lineAbove, if_neg h0, hslot]

/-- A LINE mark that is neither LONG nor ORDER takes its line. -/
theorem exec_line_take {s : State} {t : PartTime} {c : Camera} {n : BitVec 16} {f : FillingFrame} {px : List Pixel} {good : Bool}
    (hin : (s.channel c).ingests = true) (hfill : (s.channel c).filling = some f) (hheight : n.toNat < (s.channel c).record.height)
    (hmax : (s.channel c).record.height ≤ 1080) (hnext : f.expected ≤ n.toNat) :
    ∃ y, LineTaken (s.channel c).record.width n.toNat px good s.pool { f with received := f.received + 1 } y ∧
      exec (.line t c n (.perPixel px) good) s =
        .next (((s.atTime t).setPool y.1).setChannel c { s.channel c with filling := some y.2 }) := by
  refine ⟨_, lineTaken_takeLine hnext (hheight.trans_le hmax), ?_⟩
  rw [exec_line, State.line_filling (s := s.atTime t) hin hfill, State.atTime_channel, lineMark_take hheight hnext]
  rfl

/-- Settles O9: the missing lines, then the marked line as it is or concealed. -/
theorem missingAndBadLinesAreConcealed : Obligations.MissingAndBadLinesAreConcealed := by
  intro s t c n f px good hin hfill hheight hmax hnext _
  obtain ⟨⟨p, g⟩, ⟨⟨hslots, hready⟩, hframe, hrows, hmissing, hwhole, hconcealed⟩, hexec⟩ :=
    exec_line_take (t := t) (px := px) (good := good) hin hfill hheight hmax hnext
  have honly := ((s.atTime t).ingested_line (agree := True) c n (.perPixel px) good).onlyCamera
  rw [Host.Outcome.next.inj ((exec_line t c n (.perPixel px) good s).symm.trans hexec)] at honly
  have hflags : g.flags = if good = true ∧ px.length = (s.channel c).record.width then f.flags else f.flags ||| 0b000100#6 :=
    congrArg FillingFrame.flags hframe
  refine ⟨_, g, hexec, congrArg Channel.filling (State.channel_setChannel_same _ _ _), rfl, honly, rfl, hslots, hready,
    State.channel_setChannel_same _ _ _, ?_, fun l hl hln => (hmissing l hl hln).trans ?_, fun hgood hw => ?_, fun hbad => ?_,
    fun k l i hl hk => Pool.pixel_of_row (hrows k l hl hk) i⟩
  · rw [hflags]
    exact hframe
  · unfold lastLine
    cases f.highest <;> rfl
  · exact ⟨hflags.trans (if_pos ⟨hgood, hw⟩), hwhole ⟨hgood, hw⟩⟩
  · have hnot : ¬ (good = true ∧ px.length = (s.channel c).record.width) := fun h =>
      hbad.elim (ne_false_of_eq_true h.1) (absurd h.2)
    exact ⟨hflags.trans (if_neg hnot), hconcealed hnot⟩

end Sys2Proof.Machine
end

section
/-!
PROOFS. The cadence step and the freeze check of one channel (chapter 1, R14 to R17 and R19).
-/
namespace Sys2Proof.Machine

/-! ## The classes (R14, R15) -/

theorem intervalClass_bounds (us : Nat) :
    (intervalClass us = .c60 ↔ 15900 ≤ us ∧ us ≤ 17400) ∧ (intervalClass us = .c50 ↔ 19000 ≤ us ∧ us ≤ 21000) ∧
    (intervalClass us = .c30 ↔ 32000 ≤ us ∧ us ≤ 34700) ∧ (intervalClass us = .c25 ↔ 38500 ≤ us ∧ us ≤ 41500) ∧
    (intervalClass us = .out ↔ us < 15900 ∨ (17400 < us ∧ us < 19000) ∨ (21000 < us ∧ us < 32000) ∨
      (34700 < us ∧ us < 38500) ∨ 41500 < us) := by
  unfold intervalClass
  split_ifs <;> simp only [false_iff, true_iff] <;> omega

theorem qualifies_iff (expected : ExpectedCadence) (cls : CadenceClass) : qualifies expected cls = true ↔
    (expected = .any ∧ cls ≠ .out) ∨ (expected, cls) ∈
      [(ExpectedCadence.c25, CadenceClass.c25), (.c30, .c30), (.c50, .c50), (.c60, .c60)] := by
  cases expected <;> cases cls <;> decide

/-! ## The reason set (R19) -/

section
variable {ch : Channel} {r : Reasons}

theorem Channel.withReasons_of_inUse (h : ch.state = .live ∨ ch.state = .degraded) :
    ch.withReasons r = { ch with state := if r = .none then .live else .degraded, reasons := r } :=
  if_pos ((Channel.inUse_iff ch).mpr h)

/-- Reasons join: a channel in use is DEGRADED (R19). -/
theorem Channel.withReasons_degraded (h : ch.state = .live ∨ ch.state = .degraded) (hr : r ≠ .none) :
    ch.withReasons r = { ch with state := .degraded, reasons := r } := by
  rw [Channel.withReasons_of_inUse h, if_neg hr]

theorem Channel.withReasons_stays (h : ch.state = .degraded) (hr : r ≠ .none) : ch.withReasons r = { ch with reasons := r } := by
  rw [Channel.withReasons_degraded (.inr h) hr, ← h]

/-- The last reason leaves: a channel in use is LIVE (R19). -/
theorem Channel.withReasons_live (h : ch.state = .live ∨ ch.state = .degraded) :
    ch.withReasons .none = { ch with state := .live, reasons := .none } := by
  rw [Channel.withReasons_of_inUse h, if_pos rfl]

end

/-! ## The loss of the adopted class (R16) -/

section
variable {c : Camera} {ch : Channel} {cls a : CadenceClass}

theorem Channel.cadenceLoss_none : ch.cadenceLoss c none = (ch, []) := rfl

theorem Channel.cadenceLoss_of_none_adopted (m : Option CadenceClass) (h : ch.cadence.adopted = none) :
    ch.cadenceLoss c m = (ch, []) := by
  unfold Channel.cadenceLoss
  rw [h]
  cases m <;> rfl

theorem Channel.cadenceLoss_inside (h : ch.cadence.adopted = some cls) :
    ch.cadenceLoss c (some cls) = ({ ch with cadence := { ch.cadence with adopted := some cls, outside := 0 } }, []) := by
  simp only [Channel.cadenceLoss, h, if_pos]

theorem Channel.cadenceLoss_first (h : ch.cadence.adopted = some a) (hne : cls ≠ a) (hout : ch.cadence.outside = 0) :
    ch.cadenceLoss c (some cls) = ({ ch with cadence := { ch.cadence with adopted := some a, outside := 1 } }, []) := by
  simp only [Channel.cadenceLoss, h, if_neg hne, hout, Nat.zero_add, Nat.one_lt_ofNat, if_pos]

/-- The second interval in a row outside the class drops it, and CADENCE joins (R16). -/
theorem Channel.cadenceLoss_second (h : ch.cadence.adopted = some a) (hne : cls ≠ a) (hout : ch.cadence.outside = 1)
    (huse : ch.state = .live ∨ ch.state = .degraded) {r : Reasons} (hr : { ch.reasons with cadence := true } = r) {x : Channel}
    (hx : Channel.withReasons { ch with cadence := { ch.cadence with adopted := none, outside := 0 } } r = x) :
    ch.cadenceLoss c (some cls) = (x, [.camDegraded c]) := by
  have hin : ch.inUse = true := (Channel.inUse_iff ch).mpr huse
  subst hr hx
  simp only [Channel.cadenceLoss, h, if_neg hne, hout, hin, latchIf, if_pos]
  rfl

/-! ## Adoption (R15) -/

theorem Channel.cadenceAdoption_of_adopted (h : ch.cadence.adopted = some a) : ch.cadenceAdoption c = (ch, []) := by
  unfold Channel.cadenceAdoption
  rw [h]

/-- A run below 4, or of a class that does not qualify, adopts nothing. -/
theorem Channel.cadenceAdoption_early (h : ∀ b, ch.cadence.lastClass = some b →
    ch.cadence.run < 4 ∨ qualifies ch.record.cadence b = false) : ch.cadenceAdoption c = (ch, []) := by
  unfold Channel.cadenceAdoption
  split
  · next b hadopted hlast =>
    refine if_neg fun ⟨hrun, hq⟩ => ?_
    rcases h b hlast with hlow | hnot
    · omega
    · exact Bool.noConfusion (hq.symm.trans hnot)
  · rfl

section
variable (hadopted : ch.cadence.adopted = none) (hlast : ch.cadence.lastClass = some cls) (hrun : 4 ≤ ch.cadence.run)
  (hq : qualifies ch.record.cadence cls = true)
include hadopted hlast hrun hq

theorem Channel.cadenceAdoption_acquiring (h : ch.state = .acquiring) :
    ch.cadenceAdoption c = ({ ch with cadence := { ch.cadence with adopted := some cls, outside := 0 }, state := .live },
      [.camRecovered c]) := by
  simp only [Channel.cadenceAdoption, hadopted, hlast, hrun, hq, h, and_self, if_pos]

/-- A DEGRADED channel loses CADENCE at an adoption (R15, R19). -/
theorem Channel.cadenceAdoption_degraded (h : ch.state = .degraded) {frozen : Bool} (hreasons : ch.reasons = ⟨true, frozen⟩)
    {x : Channel}
    (hx : Channel.withReasons { ch with cadence := { ch.cadence with adopted := some cls, outside := 0 } } ⟨false, frozen⟩ = x) :
    ch.cadenceAdoption c = (x, latchIf (!frozen) (.camRecovered c)) := by
  subst hx
  simp only [Channel.cadenceAdoption, hadopted, hlast, hrun, hq, h, hreasons, and_self, if_pos]

end

/-! ## The step -/

/-- Before the first FRAME_OPEN there is no interval: the step notes the time alone (R14). -/
theorem Channel.cadenceStep_first (t : PartTime) (hopen : ch.cadence.lastOpen = none) (hrun : ch.cadence.run < 4) :
    ch.cadenceStep c t = ({ ch with cadence := { ch.cadence with lastOpen := some t } }, []) := by
  have hstep : ch.cadence.step t = { ch.cadence with lastOpen := some t } := by
    rw [CadenceTracker.step, CadenceTracker.measured, hopen]
    rfl
  have hadoption : Channel.cadenceAdoption c { ch with cadence := { ch.cadence with lastOpen := some t } } = (_, []) :=
    Channel.cadenceAdoption_early fun _ _ => .inl hrun
  unfold Channel.cadenceStep
  rw [CadenceTracker.measured, hopen, Option.map_none, hstep]
  dsimp only
  rw [Channel.cadenceLoss_none, hadoption]
  rfl

/-- The tracker after an interval, before the loss and the adoption. -/
def CadenceTracker.counted (k : CadenceTracker) (t : PartTime) (cls : CadenceClass) : CadenceTracker :=
  { k with lastOpen := some t, lastClass := some cls, run := if k.lastClass = some cls then k.run + 1 else 1 }

section
variable {t t0 : PartTime} (hopen : ch.cadence.lastOpen = some t0) (hcls : intervalClass (t - t0).toNat = cls)
include hopen hcls

theorem CadenceTracker.step_of_interval : ch.cadence.measured t = some cls ∧ ch.cadence.step t = ch.cadence.counted t cls := by
  have hmeasured : ch.cadence.measured t = some cls := by
    rw [CadenceTracker.measured, hopen, ← hcls]
    rfl
  refine ⟨hmeasured, ?_⟩
  rw [CadenceTracker.step, hmeasured]
  rfl

/-- After an interval the step counts it, then looks at the loss and at the adoption. -/
theorem Channel.cadenceStep_of_interval {x y : Channel} {ls ms : List Latch}
    (hloss : Channel.cadenceLoss c { ch with cadence := ch.cadence.counted t cls } (some cls) = (x, ls))
    (hadoption : x.cadenceAdoption c = (y, ms)) : ch.cadenceStep c t = (y, ls ++ ms) := by
  obtain ⟨hmeasured, hstep⟩ := CadenceTracker.step_of_interval hopen hcls
  unfold Channel.cadenceStep
  rw [hmeasured, hstep]
  dsimp only
  rw [hloss, hadoption]

end

/-! ### What the loss and the adoption leave of the count -/

theorem Channel.cadenceLoss_counted (m : Option CadenceClass) : (ch.cadenceLoss c m).1.cadence.lastClass = ch.cadence.lastClass ∧
    (ch.cadenceLoss c m).1.cadence.run = ch.cadence.run := by
  unfold Channel.cadenceLoss
  split
  · split_ifs
    · exact ⟨rfl, rfl⟩
    · exact ⟨rfl, rfl⟩
    · dsimp only
      rw [Channel.withReasons_cadence]
      exact ⟨rfl, rfl⟩
  · exact ⟨rfl, rfl⟩

theorem Channel.cadenceAdoption_counted : (ch.cadenceAdoption c).1.cadence.lastClass = ch.cadence.lastClass ∧
    (ch.cadenceAdoption c).1.cadence.run = ch.cadence.run := by
  unfold Channel.cadenceAdoption
  split
  · split_ifs
    · dsimp only
      split
      · exact ⟨rfl, rfl⟩
      · dsimp only
        rw [Channel.withReasons_cadence]
        exact ⟨rfl, rfl⟩
      · exact ⟨rfl, rfl⟩
    · exact ⟨rfl, rfl⟩
  · exact ⟨rfl, rfl⟩

end

/-- Settles O13: the interval's count, then the branch of the loss, then the branch of the adoption. -/
theorem cadenceStepFollowsTheClasses : Obligations.CadenceStepFollowsTheClasses := by
  refine ⟨intervalClass_bounds, qualifies_iff, fun c t ch => ⟨fun hopen _ hrun => Channel.cadenceStep_first t hopen hrun, ?_⟩⟩
  intro t0 cls hopen hcls run
  let counted : Channel := { ch with cadence := ch.cadence.counted t cls }
  have hlost := Channel.cadenceLoss_counted (c := c) (ch := counted) (some cls)
  have hadopts := Channel.cadenceAdoption_counted (c := c) (ch := (counted.cadenceLoss c (some cls)).1)
  have hstep : ch.cadenceStep c t = _ := Channel.cadenceStep_of_interval (c := c) hopen hcls rfl rfl
  have early {x : Channel} (hlast : x.cadence.lastClass = some cls)
      (h : x.cadence.run < 4 ∨ qualifies x.record.cadence cls = false) : x.cadenceAdoption c = (x, []) :=
    Channel.cadenceAdoption_early fun b hb => Option.some.inj (hlast.symm.trans hb) ▸ h
  refine ⟨Channel.cadenceStep_lastOpen c t ch, ?_, ?_, fun hadopted => ?_, fun a hadopted hne hout => ?_,
    fun a hadopted hne hout hlive hrun => ?_, fun a hadopted hne hout hdegraded hreasons hrun => ?_, fun hadopted hno => ?_,
    fun hadopted hrun hq hacquiring => ?_, fun hadopted hrun hq hdegraded hreasons => ?_,
    fun hadopted hrun hq hdegraded hreasons => ?_⟩
  · rw [hstep]
    exact hadopts.1.trans hlost.1
  · rw [hstep]
    exact hadopts.2.trans hlost.2
  · exact Channel.cadenceStep_of_interval hopen hcls (Channel.cadenceLoss_inside hadopted) (Channel.cadenceAdoption_of_adopted rfl)
  · exact Channel.cadenceStep_of_interval hopen hcls (Channel.cadenceLoss_first hadopted hne hout)
      (Channel.cadenceAdoption_of_adopted rfl)
  · have hjoins : ({ ch.reasons with cadence := true } : Reasons) ≠ .none := fun he => Bool.noConfusion (congrArg Reasons.cadence he)
    have hloss := Channel.cadenceLoss_second (c := c) (ch := counted) hadopted hne hout (.inl hlive) rfl
      (Channel.withReasons_degraded (.inl hlive) hjoins)
    exact Channel.cadenceStep_of_interval hopen hcls hloss (early rfl (.inl hrun))
  · have hjoins : ({ ch.reasons with cadence := true } : Reasons) = ⟨true, true⟩ := by rw [hreasons]
    have hloss := Channel.cadenceLoss_second (c := c) (ch := counted) hadopted hne hout (.inr hdegraded) hjoins
      (Channel.withReasons_stays hdegraded (by decide))
    exact Channel.cadenceStep_of_interval hopen hcls hloss (early rfl (.inl hrun))
  · exact Channel.cadenceStep_of_interval hopen hcls (Channel.cadenceLoss_of_none_adopted _ hadopted) (early rfl hno)
  · exact Channel.cadenceStep_of_interval hopen hcls (Channel.cadenceLoss_of_none_adopted _ hadopted)
      (Channel.cadenceAdoption_acquiring hadopted rfl hrun hq hacquiring)
  · exact Channel.cadenceStep_of_interval hopen hcls (Channel.cadenceLoss_of_none_adopted _ hadopted)
      (Channel.cadenceAdoption_degraded (ch := counted) hadopted rfl hrun hq hdegraded hreasons (Channel.withReasons_live (.inr hdegraded)))
  · exact Channel.cadenceStep_of_interval hopen hcls (Channel.cadenceLoss_of_none_adopted _ hadopted)
      (Channel.cadenceAdoption_degraded (ch := counted) hadopted rfl hrun hq hdegraded hreasons (Channel.withReasons_stays hdegraded (by decide)))

/-! ## The freeze check (R17) -/

theorem Channel.withReasons_freeze (ch : Channel) (r : Reasons) : (ch.withReasons r).freeze = ch.freeze := by
  unfold Channel.withReasons
  split_ifs <;> rfl

theorem FreezeTracker.differed_iff (k : FreezeTracker) (sig : BitVec 16) : k.differed sig = true ↔ ∃ p, k.previous = some p ∧ p ≠ sig := by
  unfold FreezeTracker.differed
  split <;> simp_all

/-- Different signatures end the run (R17). -/
theorem FreezeTracker.step_of_differed {k : FreezeTracker} {p sig : BitVec 16} (hprevious : k.previous = some p) (hne : p ≠ sig) :
    k.step sig = ⟨some sig, 0⟩ := by
  rw [FreezeTracker.step, hprevious, if_neg fun h => hne (Option.some.inj h)]

section
variable {c : Camera} {ch : Channel} {sig : BitVec 16}

theorem Channel.freezeCheck_off (h : ch.record.freezeCount = 0) : ch.freezeCheck c sig = (ch, []) := if_pos h

variable (hcount : ch.record.freezeCount ≠ 0)
include hcount

/-- FROZEN joins where the run has reached the freeze count (R17). -/
theorem Channel.freezeCheck_joins (huse : ch.state = .live ∨ ch.state = .degraded) {cadence : Bool}
    (hreasons : ch.reasons = ⟨cadence, false⟩) (hrun : ch.record.freezeCount ≤ (ch.freeze.step sig).run) {x : Channel}
    (hx : Channel.withReasons { ch with freeze := ch.freeze.step sig } ⟨cadence, true⟩ = x) :
    ch.freezeCheck c sig = (x, [.camDegraded c]) := by
  subst hx
  have hjoin : ch.inUse = true ∧ ch.reasons.frozen = false ∧ ch.record.freezeCount ≤ (ch.freeze.step sig).run :=
    ⟨(Channel.inUse_iff ch).mpr huse, congrArg Reasons.frozen hreasons, hrun⟩
  unfold Channel.freezeCheck
  rw [if_neg hcount]
  dsimp only
  rw [if_pos hjoin, hreasons]

/-- FROZEN leaves where the signatures differ (R17). -/
theorem Channel.freezeCheck_leaves (hstate : ch.state = .degraded) {cadence : Bool} (hreasons : ch.reasons = ⟨cadence, true⟩)
    {p : BitVec 16} (hprevious : ch.freeze.previous = some p) (hne : p ≠ sig) {x : Channel}
    (hx : Channel.withReasons { ch with freeze := ⟨some sig, 0⟩ } ⟨cadence, false⟩ = x) :
    ch.freezeCheck c sig = (x, latchIf (!cadence) (.camRecovered c)) := by
  subst hx
  have hfrozen : ch.reasons.frozen = true := congrArg Reasons.frozen hreasons
  have hdiffer : ch.freeze.differed sig = true := (FreezeTracker.differed_iff _ _).mpr ⟨p, hprevious, hne⟩
  unfold Channel.freezeCheck
  rw [if_neg hcount]
  dsimp only
  rw [if_neg fun h => Bool.noConfusion (h.2.1.symm.trans hfrozen), if_pos ⟨hstate, hfrozen, hdiffer⟩, hreasons,
    FreezeTracker.step_of_differed hprevious hne]

/-- Elsewhere only the tracker moves. -/
theorem Channel.freezeCheck_stays
    (hjoin : ch.inUse = true → ch.reasons.frozen = false → (ch.freeze.step sig).run < ch.record.freezeCount)
    (hleave : ch.state = .degraded → ch.reasons.frozen = true → ch.freeze.previous = some sig) :
    ch.freezeCheck c sig = ({ ch with freeze := ch.freeze.step sig }, []) := by
  unfold Channel.freezeCheck
  rw [if_neg hcount]
  dsimp only
  rw [if_neg fun ⟨huse, hfrozen, hrun⟩ => Nat.not_lt.mpr hrun (hjoin huse hfrozen), if_neg ?_]
  rintro ⟨hstate, hfrozen, hdiffer⟩
  obtain ⟨p, hprevious, hne⟩ := (FreezeTracker.differed_iff _ _).mp hdiffer
  exact hne (Option.some.inj (hprevious.symm.trans (hleave hstate hfrozen)))

theorem Channel.freezeCheck_freeze : (ch.freezeCheck c sig).1.freeze = ch.freeze.step sig := by
  unfold Channel.freezeCheck
  rw [if_neg hcount]
  dsimp only
  split_ifs
  · exact Channel.withReasons_freeze _ _
  · exact Channel.withReasons_freeze _ _
  · rfl

end

/-- Settles O14: the three branches of the check, by the state and the reason set. -/
theorem freezeCheckCountsEqualSignatures : Obligations.FreezeCheckCountsEqualSignatures := by
  intro c ch sig run
  refine ⟨Channel.freezeCheck_off, fun hcount => ⟨Channel.freezeCheck_freeze hcount, fun hlive hreasons hrun => ?_,
    fun hdegraded hreasons hrun => ?_, fun hlive hrun => ?_, fun hacquiring => ?_, fun hdegraded hreasons hrun => ?_,
    fun hdegraded hfrozen hsame => ?_, fun p hdegraded hreasons hprevious hne => ?_,
    fun p hdegraded hreasons hprevious hne => ?_⟩⟩
  · exact Channel.freezeCheck_joins hcount (.inl hlive) hreasons hrun (Channel.withReasons_degraded (.inl hlive) (by decide))
  · exact Channel.freezeCheck_joins hcount (.inr hdegraded) hreasons hrun (Channel.withReasons_stays hdegraded (by decide))
  · exact Channel.freezeCheck_stays hcount (fun _ _ => hrun) fun h => nomatch hlive.symm.trans h
  · have huse : ch.inUse = false := by
      rw [Channel.inUse, hacquiring]
      rfl
    exact Channel.freezeCheck_stays hcount (fun h => Bool.noConfusion (huse.symm.trans h)) fun h => nomatch hacquiring.symm.trans h
  · exact Channel.freezeCheck_stays hcount (fun _ _ => hrun) fun _ h => Bool.noConfusion ((congrArg Reasons.frozen hreasons).symm.trans h)
  · have hstep : ch.freeze.step sig = ⟨some sig, ch.freeze.run + 1⟩ := by rw [FreezeTracker.step, if_pos hsame]
    rw [Channel.freezeCheck_stays hcount (fun _ h => Bool.noConfusion (h.symm.trans hfrozen)) fun _ _ => hsame, hstep]
  · exact Channel.freezeCheck_leaves hcount hdegraded hreasons hprevious hne (Channel.withReasons_live (.inr hdegraded))
  · exact Channel.freezeCheck_leaves hcount hdegraded hreasons hprevious hne (Channel.withReasons_stays hdegraded (by decide))

end Sys2Proof.Machine
end

section
/-!
PROOFS. The times of output frames, the ends of lock attempts and the unlock (chapter 3, R48 to R50, R58 to R63).
-/
namespace Sys2Proof.Machine

/-! ## Before its time an event changes nothing -/

section
variable {s : State}

theorem State.frameStart_not_due (h : ¬ s.startDue = true) : s.frameStart = s := if_neg h

theorem State.frameDone_not_due (h : ¬ s.doneDue = true) : s.frameDone = s := if_neg h

theorem State.blanking_not_done (h : s.output.phase ≠ .done) : s.blanking = s := if_neg h

theorem State.lockFormat_not_attempting (h : ¬ s.attempting .format = true) : s.lockFormat = s := if_neg h

theorem State.lockRelock_not_attempting (h : ¬ s.attempting .relock = true) : s.lockRelock = s := if_neg h

theorem State.expireFormat_not_expired (h : ¬ s.lockExpired .format = true) : s.expireFormat = s := if_neg h

theorem State.expireRelock_not_expired (h : ¬ s.lockExpired .relock = true) : s.expireRelock = s := if_neg h

theorem State.unlock_not_taken (h : ¬ (s.output.clock = .locked ∧ s.output.format ≠ 0)) : s.unlock = s := if_neg h

end

/-- Settles O16: the constants of the formats one by one, and the tests of the time. -/
theorem outputFramesKeepTheirTimes : Obligations.OutputFramesKeepTheirTimes := by
  refine ⟨fun f => ⟨?_, fun v => ?_⟩, by decide, by decide, by decide, fun s t => ⟨fun hearly => ?_, fun hearly => ?_, fun hphase => ?_⟩⟩
  · fin_cases f <;> rfl
  · have hgrid : (gridColumns f, gridRows f) = if f = 0 then (25, 15) else if f = 1 then (32, 24) else (40, 25) := by
      fin_cases f <;> rfl
    rw [← hgrid, View.fitsGrid, Bool.and_eq_true, decide_eq_true_eq, decide_eq_true_eq, Prod.mk.injEq]
  · refine congrArg _ (State.frameStart_not_due (s := s.atTime t) fun hdue => ?_)
    obtain ⟨hclock, hphase⟩ := (s.atTime t).startDue_iff.mp hdue
    rcases hearly with h | h | h | ⟨h, hlt⟩
    · exact h hclock
    · rcases hphase with hp | ⟨hp, -⟩ <;> exact nomatch h.symm.trans hp
    · rcases hphase with hp | ⟨hp, -⟩ <;> exact nomatch h.symm.trans hp
    · rcases hphase with hp | ⟨-, hle⟩
      · exact nomatch h.symm.trans hp
      · exact Nat.not_lt.mpr hle hlt
  · refine congrArg _ (State.frameDone_not_due (s := s.atTime t) fun hdue => ?_)
    obtain ⟨hphase, hle⟩ := (s.atTime t).doneDue_iff.mp hdue
    exact hearly.elim (fun h => h hphase) fun hlt => Nat.not_lt.mpr hle hlt
  · exact congrArg _ (State.blanking_not_done (s := s.atTime t) hphase)

/-! ## The lock attempts (R58, R59, R62, R63) -/

section
variable {s : State}

theorem State.not_attempting_of_locked (kind : AttemptKind) (h : s.output.clock = .locked) : ¬ s.attempting kind = true := fun ha => by
  obtain ⟨f, t, hclock⟩ := (s.attempting_iff kind).mp ha
  exact nomatch h.symm.trans hclock

theorem State.not_lockExpired_of_locked (kind : AttemptKind) (h : s.output.clock = .locked) : ¬ s.lockExpired kind = true := fun ha => by
  obtain ⟨f, t, hclock, -⟩ := (s.lockExpired_iff kind).mp ha
  exact nomatch h.symm.trans hclock

variable {kind : AttemptKind} {f : FormatNo} {t0 : PartTime} (hclock : s.output.clock = .settling kind f t0)
include hclock

theorem State.attempting_settling (other : AttemptKind) : s.attempting other = true ↔ kind = other := by
  rw [s.attempting_iff]
  refine ⟨fun ⟨g, t, h⟩ => ?_, fun h => ⟨f, t0, h ▸ hclock⟩⟩
  injection hclock.symm.trans h

theorem State.lockExpired_settling (other : AttemptKind) :
    s.lockExpired other = true ↔ kind = other ∧ 20000 ≤ elapsed s.partTime t0 := by
  rw [s.lockExpired_iff]
  refine ⟨fun ⟨g, t, h, hle⟩ => ?_, fun ⟨h, hle⟩ => ⟨f, t0, h ▸ hclock, hle⟩⟩
  injection hclock.symm.trans h with hkind _ ht
  exact ⟨hkind, ht ▸ hle⟩

end

/-- The reply to a FORMAT attempt leaves with the executor IDLE (R58, R59). -/
theorem State.endFormat_of_attempt {s : State} {m : Message} (hexec : s.mgmt.executor = .attempt m) (hkind : m.kind = 9) (r : Result) :
    s.endFormat r = (s.setMgmt { s.mgmt with executor := .idle }).answered m.tag 9 0 r [] := by
  have htable : isTableRequest m = false := by
    rw [isTableRequest, hkind]
    rfl
  unfold State.endFormat
  rw [hexec]
  dsimp only
  rw [State.pushReply, replyTo, htable, hkind]
  rfl

theorem ZoneMonitor.fallen_zone_eq (m : ZoneMonitor) (z : ZoneNo) : m.fallen.zone z = { m.zone z with state := .disarmed } :=
  m.zone_mapZones (fun x => { x with state := .disarmed }) z

theorem ZoneMonitor.background_resumeAll (m : ZoneMonitor) {i : Nat} (hi : i < 1024) :
    m.resumeAll.background i = { m.background i with resume := true } := by
  rw [ZoneMonitor.background, ZoneMonitor.resumeAll, Table.read_tabulate, if_pos hi]

/-- Settles O23: each attempt's end by the clock, and the fall to CONFIG field by field. -/
theorem lockAttemptsEnd : Obligations.LockAttemptsEnd := by
  intro s t t0 m
  refine ⟨fun hclock hexec hkind => ⟨?_, fun hexpired => ?_, fun hearly => ?_, ?_, ?_⟩,
    fun hclock => ⟨?_, fun hearly => ?_, fun hexpired hconfig => ?_, fun hexpired hrun => ?_, ?_, ?_⟩, fun hclock => ⟨?_, ?_, ?_, ?_⟩⟩
  · have hattempt : (s.atTime t).attempting .format = true := (State.attempting_settling (s := s.atTime t) hclock .format).mpr rfl
    exact congrArg _ ((if_pos hattempt).trans
      (State.endFormat_of_attempt (s := (s.atTime t).lockIn s.output.format) hexec hkind .ok))
  · have hexp : (s.atTime t).lockExpired .format = true :=
      (State.lockExpired_settling (s := s.atTime t) hclock .format).mpr ⟨rfl, hexpired⟩
    exact congrArg _ ((if_pos hexp).trans
      (State.endFormat_of_attempt (s := ((s.atTime t).lockIn 0).raiseLatch .lockFail) hexec hkind .lockFail))
  · refine congrArg _ (State.expireFormat_not_expired (s := s.atTime t) fun h => ?_)
    exact Nat.not_lt.mpr ((State.lockExpired_settling (s := s.atTime t) hclock .format).mp h).2 hearly
  · refine congrArg _ (State.lockRelock_not_attempting (s := s.atTime t) fun h => ?_)
    exact nomatch (State.attempting_settling (s := s.atTime t) hclock .relock).mp h
  · refine congrArg _ (State.expireRelock_not_expired (s := s.atTime t) fun h => ?_)
    exact nomatch ((State.lockExpired_settling (s := s.atTime t) hclock .relock).mp h).1
  · have hattempt : (s.atTime t).attempting .relock = true := (State.attempting_settling (s := s.atTime t) hclock .relock).mpr rfl
    exact congrArg _ (if_pos hattempt)
  · refine congrArg _ (State.expireRelock_not_expired (s := s.atTime t) fun h => ?_)
    exact Nat.not_lt.mpr ((State.lockExpired_settling (s := s.atTime t) hclock .relock).mp h).2 hearly
  · have hexp : (s.atTime t).lockExpired .relock = true :=
      (State.lockExpired_settling (s := s.atTime t) hclock .relock).mpr ⟨rfl, hexpired⟩
    have hconfig' : ¬ (s.atTime t).isRun = true := fun hr => nomatch hconfig.symm.trans (s.isRun_iff.mp hr)
    exact congrArg _ ((if_pos hexp).trans (if_neg hconfig'))
  · have hexp : (s.atTime t).lockExpired .relock = true :=
      (State.lockExpired_settling (s := s.atTime t) hclock .relock).mpr ⟨rfl, hexpired⟩
    have hin : (s.atTime t).isRun = true := s.isRun_iff.mpr hrun
    refine ⟨(((s.atTime t).lockIn 0).raiseLatch .lockFail).fallToConfig, congrArg _ ((if_pos hexp).trans (if_pos hin)),
      rfl, rfl, rfl, s.monitor.fallen_zone_eq, fun i hi => ZoneMonitor.background_resumeAll _ hi, ?_, fun z hz => ?_, rfl, rfl, rfl, rfl,
      rfl, rfl⟩
    · exact (member_setLatches _ _ 39 (by decide)).mpr (.inl ((member_setLatches [.lockFail] _ 39 (by decide)).mpr
        (.inr ⟨.lockFail, List.mem_singleton_self _, rfl⟩)))
    · refine (member_setLatches _ _ _ (by omega)).mpr (.inr ⟨.zoneFall z, ?_, rfl⟩)
      exact List.mem_flatMap.mpr ⟨z, mem_allZones z, (mem_fallLatch z _ _ _).mpr ⟨⟨hz, rfl⟩, rfl⟩⟩
  · refine congrArg _ (State.lockFormat_not_attempting (s := s.atTime t) fun h => ?_)
    exact nomatch (State.attempting_settling (s := s.atTime t) hclock .format).mp h
  · refine congrArg _ (State.expireFormat_not_expired (s := s.atTime t) fun h => ?_)
    exact nomatch ((State.lockExpired_settling (s := s.atTime t) hclock .format).mp h).1
  · exact congrArg _ (State.lockFormat_not_attempting (s := s.atTime t) (State.not_attempting_of_locked (s := s.atTime t) _ hclock))
  · exact congrArg _ (State.lockRelock_not_attempting (s := s.atTime t) (State.not_attempting_of_locked (s := s.atTime t) _ hclock))
  · exact congrArg _ (State.expireFormat_not_expired (s := s.atTime t) (State.not_lockExpired_of_locked (s := s.atTime t) _ hclock))
  · exact congrArg _ (State.expireRelock_not_expired (s := s.atTime t) (State.not_lockExpired_of_locked (s := s.atTime t) _ hclock))

/-! ## The unlock (R61) -/

/-- Sending lines changes no other part of the port. -/
theorem State.stopLines_port (s : State) : s.stopLines.port.status = s.port.status ∧ s.stopLines.port.replies = s.port.replies := by
  unfold State.stopLines
  split_ifs <;> exact ⟨rfl, rfl⟩

/-- Settles O24: the abandoned composition, then the attempt that begins. -/
theorem unlockBeginsARelockAttempt : Obligations.UnlockBeginsARelockAttempt := by
  intro s t
  refine ⟨fun hnot => ?_, fun hclock hformat hone => ?_⟩
  · exact congrArg _ (State.unlock_not_taken (s := s.atTime t) fun ⟨hclock, hformat⟩ =>
      hnot.elim (fun h => h hclock) hformat)
  obtain ⟨hstatus, hreplies⟩ := (s.atTime t).stopLines_port
  obtain ⟨port, budget, hsent⟩ := (s.atTime t).stopLines_eq
  have hexec : exec (.unlockEvent t) s =
      .next (((s.atTime t).stopLines.abandon.beginAttempt .relock s.output.format).raiseLatch .unlocked) :=
    congrArg _ (if_pos (c := (s.atTime t).output.clock = .locked ∧ (s.atTime t).output.format ≠ 0) ⟨hclock, hformat⟩)
  have habandon := State.abandon_cases (s.atTime t).stopLines
  rw [State.not_composing_iff, (s.atTime t).stopLines_pool.1, (s.atTime t).stopLines_pool.2, State.atTime_compositor] at habandon
  rw [hsent] at hstatus hreplies
  rcases habandon with ⟨hc, he⟩ | ⟨hidle, he⟩ <;> rw [he, hsent] at hexec
  · have hnotIdle : s.compositor ≠ .idle := fun h => by
      have hnot : (s.atTime t).stopLines.composing = false :=
        (State.not_composing_iff _).mpr ((s.atTime t).stopLines_pool.2.trans h)
      exact Bool.noConfusion (hc.symm.trans hnot)
    have hsettled : s.pool.Settled s.pool.settle := settlingFreesOrRetains s.pool hone
    rw [State.atTime_pool] at hexec
    generalize s.pool.settle = p at hexec hsettled
    exact ⟨_, hexec, rfl, rfl, rfl, rfl, rfl, rfl, rfl, rfl, rfl, fun h => absurd h hnotIdle, fun _ => ⟨hsettled, rfl⟩, hstatus, hreplies⟩
  · exact ⟨_, hexec, rfl, rfl, rfl, rfl, rfl, rfl, rfl, rfl, hidle, fun _ => ⟨rfl, rfl⟩, fun h => absurd hidle h, hstatus, hreplies⟩

end Sys2Proof.Machine
end

section
/-!
PROOFS. The frame done (chapter 3, R52, R53; chapter 5, R94, R109, R113; chapter 7, R149; chapter 8, R158).
-/
namespace Sys2Proof.Machine

/-! ## The lines that end a frame (R52, R113, R149) -/

section
variable {s : State}

theorem exec_frameDone (t : PartTime) (s : State) : exec (.frameDone t) s = .next (s.atTime t).frameDone := rfl

/-- With nothing composed every line sent is black, and no line is crowded (R52). -/
theorem State.sendTo_of_idle (h : s.compositor = .idle) (n : Nat) :
    s.sendTo n = s.setPort { s.port with
      lines := s.port.lines ++ List.replicate (n - s.port.lines.length) (blackLine s.output.format) } := by
  have hscene := State.scene_of_idle h
  have hbudget : s.budgetExceeded n = false := by
    rw [State.budgetExceeded, hscene]
    rfl
  have hline : s.activeLine = fun _ => blackLine s.output.format := by
    funext y
    rw [State.activeLine, hscene]
  rw [State.sendTo, hbudget, Bool.or_false, State.linesTo, hline, List.map_const', List.length_range']
  rfl

section
variable {v : ViewNo} {pos : Nat × Nat} {means : List TileMean} {sums : List Nat} (h : s.compositor = .composing v pos means sums)
include h

theorem State.activeLine_of_composing (y : Nat) : s.activeLine y =
    composedLine s.output.format ⟨(s.view v).header, (s.view v).tiles, s.pool⟩ s.overlay.activeBank s.overlay.drawList y := by
  rw [State.activeLine, State.scene_of_composing h]

theorem State.budgetExceeded_iff (n : Nat) : s.budgetExceeded n = true ↔ ∃ y, s.port.lines.length ≤ y ∧ y < n ∧
    16 < (s.overlay.drawList.filter fun d => inExtent s.overlay.activeBank d y).length := by
  rw [State.budgetExceeded, State.scene_of_composing h, Option.isSome_some, Bool.true_and, List.any_eq_true]
  constructor
  · rintro ⟨y, hy, hcrowded⟩
    obtain ⟨hlow, hhigh⟩ := List.mem_range'_1.mp hy
    exact ⟨y, hlow, by omega, of_decide_eq_true hcrowded⟩
  · rintro ⟨y, hlow, hhigh, hcrowded⟩
    exact ⟨y, List.mem_range'_1.mpr ⟨hlow, by omega⟩, decide_eq_true hcrowded⟩

end

theorem State.linesTo_length (n : Nat) : (s.linesTo n).length = n - s.port.lines.length := by
  rw [State.linesTo, List.length_map, List.length_range']

theorem State.sendTo_lines (n : Nat) : (s.sendTo n).port.lines = s.port.lines ++ s.linesTo n := rfl

/-- A line not yet sent is the active line of its number. -/
theorem State.sendTo_line {n y : Nat} (hlow : s.port.lines.length ≤ y) (hy : y < n) :
    (s.sendTo n).port.lines.getD y [] = s.activeLine y := by
  have hnumber : s.port.lines.length + 1 * (y - s.port.lines.length) = y := by omega
  have hlt : y - s.port.lines.length < n - s.port.lines.length := by omega
  rw [State.sendTo_lines, List.getD_eq_getElem?_getD, List.getElem?_append_right hlow, State.linesTo, List.getElem?_map,
    List.getElem?_range' hlt, hnumber]
  rfl

end

theorem composedLine_getD (f : FormatNo) (sc : Scene) (bank : Bank) (list : List DrawItem) {x : Nat} (y : Nat) (hx : x < activeWidth f) :
    (composedLine f sc bank list y).getD x black = (overlayPixel bank list x y (composePixel sc x y)).toPixel := by
  rw [composedLine, List.getD_eq_getElem?_getD, List.getElem?_map, List.getElem?_range hx]
  rfl

/-! ## The tile luma means (R94, R109, R110) -/

theorem Scene.results_mean (sc : Scene) {tx ty : Nat} (hx : tx < sc.header.columns) (hy : ty < sc.header.rows) :
    sc.results.mean (ty * sc.header.columns + tx) = ⟨(tileSum sc tx ty + 512) / 1024, excludedTile sc (sc.tile tx ty)⟩ := by
  have hcount : ty * sc.header.columns + tx < sc.header.tileCount := by
    have hrow : (ty + 1) * sc.header.columns ≤ sc.header.rows * sc.header.columns := Nat.mul_le_mul_right _ hy
    have htiles : sc.header.tileCount = sc.header.rows * sc.header.columns := Nat.mul_comm _ _
    rw [Nat.succ_mul] at hrow
    omega
  have hcolumn : (ty * sc.header.columns + tx) % sc.header.columns = tx := by
    rw [Nat.mul_comm, Nat.mul_add_mod, Nat.mod_eq_of_lt hx]
  have hrow : (ty * sc.header.columns + tx) / sc.header.columns = ty := by
    rw [Nat.mul_comm, Nat.mul_add_div (Nat.zero_lt_of_lt hx), Nat.div_eq_of_lt hx, Nat.add_zero]
  rw [TileResults.mean, Scene.results, meansTable, List.getD_eq_getElem?_getD, List.getElem?_map, List.getElem?_range hcount,
    Option.map_some, Option.getD_some, tileMean, hcolumn, hrow]

/-! ## The causes of the detection step (R162, R163) -/

theorem State.mem_detectCauses_rise {s : State} {x : TileResults} {z : ZoneNo} (hbefore : (s.monitor.zone z).state.marked = false)
    (hafter : ((s.monitor.detect x s.partTime).zone z).state.marked = true) : .zoneRise z ∈ s.detectCauses x := by
  refine List.mem_flatMap.mpr ⟨z, mem_allZones z, List.mem_append_left _ ?_⟩
  rw [hbefore, hafter]
  exact List.mem_singleton_self _

theorem State.mem_detectCauses_fall {s : State} {x : TileResults} {z : ZoneNo} (hbefore : (s.monitor.zone z).state.marked = true)
    (hafter : ((s.monitor.detect x s.partTime).zone z).state.marked = false) : .zoneFall z ∈ s.detectCauses x :=
  List.mem_flatMap.mpr ⟨z, mem_allZones z, List.mem_append_right _ ((mem_fallLatch z _ _ _).mpr ⟨⟨hbefore, hafter⟩, rfl⟩)⟩

/-- Settles O21: the lines of either kind of frame, then the settled pool, the results and the zones of a composed one. -/
theorem frameDoneEndsTheFrame : Obligations.FrameDoneEndsTheFrame := by
  constructor
  · intro s t hphase hdue hidle blackLines
    have hsent : (s.atTime t).sendTo _ = _ := State.sendTo_of_idle (s := s.atTime t) hidle (activeHeight s.output.format)
    rcases (s.atTime t).frameDone_cases with ⟨hnot, -⟩ | ⟨-, -, he⟩ | ⟨-, v, p, m, r, hc, -⟩
    · exact Bool.noConfusion (hnot.symm.trans ((s.atTime t).doneDue_iff.mpr ⟨hphase, hdue⟩))
    · rw [exec_frameDone, he, State.atTime_output, hsent]
      rfl
    · exact nomatch hidle.symm.trans hc
  · intro s t v pos means sums hphase hdue hcomposing hone hcolumns
    let sc : Scene := ⟨(s.view v).header, (s.view v).tiles, s.pool⟩
    let sent := (s.atTime t).sendTo (activeHeight s.output.format)
    have hexec : exec (.frameDone t) s = .next (sent.finished sc) := by
      rcases (s.atTime t).frameDone_cases with ⟨hnot, -⟩ | ⟨-, hidle, -⟩ | ⟨-, w, p, m, r, hc, he⟩
      · exact Bool.noConfusion (hnot.symm.trans ((s.atTime t).doneDue_iff.mpr ⟨hphase, hdue⟩))
      · exact nomatch hcomposing.symm.trans hidle
      · injection hcomposing.symm.trans hc with hview
        rw [exec_frameDone, he, ← hview]
        rfl
    have hsettled : s.pool.Settled (sent.finished sc).pool := by
      rw [State.finished_pool]
      exact settlingFreesOrRetains s.pool hone
    have hline (y : Nat) : (s.atTime t).activeLine y = _ := State.activeLine_of_composing (s := s.atTime t) hcomposing y
    have hbudget := State.budgetExceeded_iff (s := s.atTime t) hcomposing (activeHeight s.output.format)
    have hmonitor : (sent.finished sc).monitor = sent.monitor.detect sc.results sent.partTime := by rw [State.finished]
    have hlatch {k : Latch} {n : Nat} (hk : k ∈ sent.detectCauses sc.results) (hnumber : k.number = n) (hn : n < 43) :
        member (sent.finished sc).mgmt.latches n = true :=
      (member_setLatches _ s.mgmt.latches _ hn).mpr (.inr ⟨k, hk, hnumber⟩)
    refine ⟨_, hexec, rfl, rfl, rfl, rfl, rfl, rfl, hsettled, rfl, rfl, rfl, fun z hb ha => ?_, fun z hb ha => ?_,
      ⟨sc.results, rfl, rfl, rfl, fun tx ty hx hy => sc.results_mean hx hy⟩, ?_, rfl, rfl, fun hlen => ?_, fun y hy => ?_,
      fun x y hx hlow hy => ?_⟩
    · rw [hmonitor] at ha
      have hmem : .zoneRise z ∈ sent.detectCauses sc.results := State.mem_detectCauses_rise hb ha
      exact hlatch hmem rfl (by omega)
    · rw [hmonitor] at ha
      have hmem : .zoneFall z ∈ sent.detectCauses sc.results := State.mem_detectCauses_fall hb ha
      exact hlatch hmem rfl (by omega)
    · exact Bool.or_eq_true_iff.trans (or_congr_right hbudget)
    · show (s.port.lines ++ (s.atTime t).linesTo (activeHeight s.output.format)).length = _
      rw [List.length_append, State.linesTo_length]
      exact Nat.add_sub_cancel' hlen
    · exact List.getElem?_append_left hy
    · have hport : (sent.finished sc).port = sent.port := by rw [State.finished]
      have hsent : sent.port.lines.getD y [] = _ := State.sendTo_line (s := s.atTime t) hlow hy
      rw [hport, hsent, hline]
      exact composedLine_getD _ _ _ _ y hx

end Sys2Proof.Machine
end

section
/-!
PROOFS. The blanking and the status packet, byte by byte (chapter 3, R54; chapter 9, R176 to R179; chapter 10, R188).
-/
namespace Sys2Proof.Machine

/-! ## Bytes and bits -/

theorem toNat_byteOf (n : Nat) : (byteOf n).toNat = n % 256 := BitVec.toNat_ofNat n 8

theorem toNat_byteOf_of_lt {n : Nat} (h : n < 256) : (byteOf n).toNat = n := (toNat_byteOf n).trans (Nat.mod_eq_of_lt h)

theorem bit_le_one (b : Bool) : bit b ≤ 1 := by
  cases b <;> decide

/-- A byte that codes a small number gives it back. -/
theorem u8_of_byte {p : List Byte} {i n : Nat} (hbyte : byteAt p i = byteOf n) (h : n < 256) : u8 p i = n := by
  rw [u8, hbyte]
  exact toNat_byteOf_of_lt h

/-- The two bytes of a 16-bit field give the number back. -/
theorem u16_of_bytes {p : List Byte} {i n : Nat} (hlow : byteAt p i = byteOf n) (hhigh : byteAt p (i + 1) = byteOf (n / 256))
    (h : n < 65536) : u16 p i = n := by
  rw [u16, u8, u8, hlow, hhigh, toNat_byteOf, toNat_byteOf]
  omega

/-- The four bytes of a 32-bit word give the number back. -/
theorem u32_of_bytes {p : List Byte} {i : Nat} {w : BitVec 32} (h0 : byteAt p i = byteOf w.toNat)
    (h1 : byteAt p (i + 1) = byteOf (w.toNat / 256)) (h2 : byteAt p (i + 2) = byteOf (w.toNat / 65536))
    (h3 : byteAt p (i + 2 + 1) = byteOf (w.toNat / 65536 / 256)) : u16 p i + 65536 * u16 p (i + 2) = w.toNat := by
  have hw := w.isLt
  rw [u16, u16, u8, u8, u8, u8, h0, h1, h2, h3, toNat_byteOf, toNat_byteOf, toNat_byteOf, toNat_byteOf]
  omega

/-! ## The fields of the packet -/

theorem ViewState.code_lt (x : ViewState) : x.code < 4 := by
  cases x <;> decide

theorem ZoneState.code_lt (x : ZoneState) : x.code < 256 := by
  cases x <;> exact Nat.le_of_ble_eq_true rfl

theorem channelByte_lt (ch : Channel) : channelByte ch < 256 := by
  have hcadence := bit_le_one ch.reasons.cadence
  have hfrozen := bit_le_one ch.reasons.frozen
  have hcode : ch.state.code ≤ 5 := by cases ch.state <;> decide
  rw [channelByte]
  omega

section
variable (s : State)

/-- The view states side by side, two bits each. -/
theorem State.viewStates_digit (v : ViewNo) : s.viewStates < 65536 ∧ s.viewStates / 4 ^ v.val % 4 = (s.view v).state.code := by
  have hsum : s.viewStates = (s.view 0).state.code * 1 + ((s.view 1).state.code * 4 + ((s.view 2).state.code * 16 +
      ((s.view 3).state.code * 64 + ((s.view 4).state.code * 256 + ((s.view 5).state.code * 1024 +
      ((s.view 6).state.code * 4096 + ((s.view 7).state.code * 16384 + 0))))))) := rfl
  have h (w : ViewNo) : (s.view w).state.code < 4 := ViewState.code_lt _
  have h0 := h 0
  have h1 := h 1
  have h2 := h 2
  have h3 := h 3
  have h4 := h 4
  have h5 := h 5
  have h6 := h 6
  have h7 := h 7
  rw [hsum]
  refine ⟨by omega, ?_⟩
  fin_cases v <;> simp only [Fin.reduceFinMk, Fin.zero_eta, Fin.mk_one, Fin.isValue] <;> omega

theorem State.usableSet_testBit (c : Camera) : s.usableSet < 16 ∧ s.usableSet.testBit c.val = (s.pool.snapshot.get c).isSome := by
  have hbits : ∀ (b : Camera → Bool) (d : Camera), (allCameras.map fun e => bit (b e) * 2 ^ e.val).sum < 16 ∧
      (allCameras.map fun e => bit (b e) * 2 ^ e.val).sum.testBit d.val = b d := by decide
  exact hbits (fun d => (s.pool.snapshot.get d).isSome) c

end

theorem anyLatch_iff (l : Latches) (lo hi : Nat) : anyLatch l lo hi = true ↔ ∃ n, lo ≤ n ∧ n ≤ hi ∧ member l n = true := by
  rw [anyLatch, List.any_eq_true]
  constructor
  · rintro ⟨n, hn, hset⟩
    obtain ⟨hlow, hhigh⟩ := List.mem_range'_1.mp hn
    exact ⟨n, hlow, by omega, hset⟩
  · rintro ⟨n, hlow, hhigh, hset⟩
    exact ⟨n, List.mem_range'_1.mpr ⟨hlow, by omega⟩, hset⟩

/-- Five bits side by side. -/
theorem fiveBits_testBit : ∀ a b c d e : Bool,
    bit a + 2 * bit b + 4 * bit c + 8 * bit d + 16 * bit e < 32 ∧
    (bit a + 2 * bit b + 4 * bit c + 8 * bit d + 16 * bit e).testBit 0 = a ∧
    (bit a + 2 * bit b + 4 * bit c + 8 * bit d + 16 * bit e).testBit 1 = b ∧
    (bit a + 2 * bit b + 4 * bit c + 8 * bit d + 16 * bit e).testBit 2 = c ∧
    (bit a + 2 * bit b + 4 * bit c + 8 * bit d + 16 * bit e).testBit 3 = d ∧
    (bit a + 2 * bit b + 4 * bit c + 8 * bit d + 16 * bit e).testBit 4 = e := by decide

/-! ## The packet read back -/

section
variable (s : State)

theorem State.statusPacket_times :
    u16 s.statusPacket 0 + 65536 * u16 s.statusPacket 2 = s.output.frameCounter.toNat ∧
    u16 s.statusPacket 4 + 65536 * u16 s.statusPacket 6 = s.partTime.toNat :=
  ⟨u32_of_bytes rfl rfl rfl rfl, u32_of_bytes rfl rfl rfl rfl⟩

theorem State.statusPacket_restarts :
    u16 s.statusPacket 33 = s.output.restartCount.toNat ∧ u8 s.statusPacket 35 = s.output.restartCause.code := by
  have hcause : s.output.restartCause.code < 256 := by cases s.output.restartCause <;> decide
  exact ⟨u16_of_bytes rfl rfl s.output.restartCount.isLt, u8_of_byte rfl hcause⟩

/-- The operating state, the clock and the format. -/
theorem State.statusPacket_output : u8 s.statusPacket 8 = s.output.opState.code ∧ u8 s.statusPacket 9 = s.output.clock.code ∧
    u8 s.statusPacket 10 = s.output.format.val := by
  have hop : s.output.opState.code < 256 := by cases s.output.opState <;> decide
  have hclock : s.output.clock.code < 256 := by cases s.output.clock <;> exact Nat.le_of_ble_eq_true rfl
  exact ⟨u8_of_byte rfl hop, u8_of_byte rfl hclock, u8_of_byte rfl (by omega)⟩

/-- The selector's fields: the current view, the force, the pending candidate. -/
theorem State.statusPacket_selector :
    u8 s.statusPacket 11 = viewCode s.selector.current ∧ u8 s.statusPacket 12 = bit s.selector.forced.isSome ∧
    u8 s.statusPacket 13 = viewCode (s.selector.candidate.map PendingCandidate.view) := by
  have hview (v : Option ViewNo) : viewCode v < 256 := by
    cases v with
    | none => decide
    | some v => exact v.isLt.trans (by decide)
  exact ⟨u8_of_byte rfl (hview _), u8_of_byte rfl ((bit_le_one _).trans_lt (by decide)), u8_of_byte rfl (hview _)⟩

theorem State.statusPacket_channel (c : Camera) : u8 s.statusPacket (16 + c.val) = channelByte (s.channel c) := by
  fin_cases c <;> exact u8_of_byte rfl (channelByte_lt _)

theorem State.statusPacket_zone (z : ZoneNo) : u8 s.statusPacket (21 + z.val) = (s.monitor.zone z).state.code := by
  fin_cases z <;> exact u8_of_byte rfl (ZoneState.code_lt _)

/-- The view states, the usable set and the overlay's flags. -/
theorem State.statusPacket_blocks :
    u16 s.statusPacket 14 = s.viewStates ∧ u8 s.statusPacket 20 = s.usableSet ∧ u8 s.statusPacket 29 = s.overlay.statusByte := by
  have hoverlay : s.overlay.statusByte < 256 := by
    have hbank := bit_le_one (decide (s.overlay.active = .b))
    have hswap := bit_le_one s.overlay.swapPending
    have hbudget := bit_le_one s.overlay.budget
    rw [Overlay.statusByte]
    omega
  exact ⟨u16_of_bytes rfl rfl (s.viewStates_digit 0).1, u8_of_byte rfl ((s.usableSet_testBit 0).1.trans (by decide)),
    u8_of_byte rfl hoverlay⟩

/-- The group summaries and the queue's fields. -/
theorem State.statusPacket_mgmt :
    u8 s.statusPacket 30 = groupSummaries s.mgmt.latches ∧ u16 s.statusPacket 31 = s.mgmt.requestDrops.toNat ∧
    (s.mgmt.replies.length ≤ 16 → u8 s.statusPacket 36 = s.mgmt.replies.length) :=
  ⟨u8_of_byte rfl ((fiveBits_testBit _ _ _ _ _).1.trans (by decide)), u16_of_bytes rfl rfl s.mgmt.requestDrops.isLt,
    fun hlen => u8_of_byte rfl (by omega)⟩

end

/-- A group's summary bit (R179). -/
theorem groupSummaries_testBit (l : Latches) : groupSummaries l < 32 ∧
    (groupSummaries l).testBit 0 = anyLatch l 0 19 ∧ (groupSummaries l).testBit 1 = anyLatch l 20 35 ∧
    (groupSummaries l).testBit 2 = anyLatch l 36 38 ∧ (groupSummaries l).testBit 3 = anyLatch l 39 40 ∧
    (groupSummaries l).testBit 4 = anyLatch l 41 42 := fiveBits_testBit _ _ _ _ _

/-- Settles O22: the packet's bytes at their offsets, each read back. -/
theorem blankingSendsStatusAndReplies : Obligations.BlankingSendsStatusAndReplies := by
  intro s t hdone code
  have hcode (r : Result) : byteOf r.code = code r := by cases r <;> rfl
  have hreply : encodeReply = fun r => [r.tag, r.kind, r.target, code r.result, byteOf r.payload.length] ++ r.payload := by
    funext r
    rw [encodeReply, hcode]
  constructor
  · rw [← hreply]
    exact congrArg _ (if_pos (c := (s.atTime t).output.phase = .done) hdone)
  intro p group viewState channelState zoneState
  obtain ⟨hcounter, htime⟩ := (s.atTime t).statusPacket_times
  obtain ⟨hop, hclock, hformat⟩ := (s.atTime t).statusPacket_output
  obtain ⟨hrestarts, hcause⟩ := (s.atTime t).statusPacket_restarts
  obtain ⟨hcurrent, hforced, hcandidate⟩ := (s.atTime t).statusPacket_selector
  obtain ⟨hviews, husable, hoverlay⟩ := (s.atTime t).statusPacket_blocks
  obtain ⟨hgroups, hdrops, hreplies⟩ := (s.atTime t).statusPacket_mgmt
  have hchannel := (s.atTime t).statusPacket_channel
  have hzone := (s.atTime t).statusPacket_zone
  obtain ⟨hsmall, hg0, hg1, hg2, hg3, hg4⟩ := groupSummaries_testBit s.mgmt.latches
  have hp : p = (s.atTime t).statusPacket := rfl
  have hlength : p.length = 37 := rfl
  rw [← hp] at hcounter htime hop hclock hformat hrestarts hcause hcurrent hforced hcandidate hviews husable hoverlay hgroups hdrops hreplies
  simp only [← hp] at hchannel hzone
  clear_value p
  refine ⟨hlength, hcounter, htime, hop.trans ?_, hclock.trans ?_, hformat, fun hn => hcurrent.trans ?_, fun v hv => hcurrent.trans ?_,
    hforced.trans ?_, fun hn => hcandidate.trans ?_, fun v since hv => hcandidate.trans ?_, fun v => ?_, fun c => (hchannel c).trans ?_,
    ?_, fun c => ?_, fun z => (hzone z).trans ?_, hoverlay.trans ?_, ?_, ?_, ?_, ?_, ?_, ?_, hdrops, hrestarts, hcause.trans ?_, hreplies⟩
  · show s.output.opState.code = _
    cases s.output.opState <;> rfl
  · show s.output.clock.code = _
    cases s.output.clock <;> rfl
  · exact congrArg viewCode hn
  · exact congrArg viewCode hv
  · show bit s.selector.forced.isSome = _
    cases s.selector.forced <;> rfl
  · exact congrArg (fun x : Option PendingCandidate => viewCode (x.map PendingCandidate.view)) hn
  · exact congrArg (fun x : Option PendingCandidate => viewCode (x.map PendingCandidate.view)) hv
  · rw [hviews]
    refine (s.viewStates_digit v).2.trans ?_
    cases (s.view v).state <;> rfl
  · rw [State.atTime_channel, channelByte]
    cases (s.channel c).state <;> cases (s.channel c).reasons.cadence <;> cases (s.channel c).reasons.frozen <;> rfl
  · rw [husable]
    exact (s.usableSet_testBit 0).1
  · rw [husable]
    exact (s.usableSet_testBit c).2
  · rw [State.atTime_monitor]
    cases (s.monitor.zone z).state <;> rfl
  · rw [State.atTime_overlay, Overlay.statusByte]
    cases s.overlay.active <;> cases s.overlay.swapPending <;> cases s.overlay.budget <;> rfl
  · exact hgroups ▸ hsmall
  · rw [hgroups, State.atTime_mgmt, hg0]
    exact anyLatch_iff _ _ _
  · rw [hgroups, State.atTime_mgmt, hg1]
    exact anyLatch_iff _ _ _
  · rw [hgroups, State.atTime_mgmt, hg2]
    exact anyLatch_iff _ _ _
  · rw [hgroups, State.atTime_mgmt, hg3]
    exact anyLatch_iff _ _ _
  · rw [hgroups, State.atTime_mgmt, hg4]
    exact anyLatch_iff _ _ _
  · rw [State.atTime_output]
    cases s.output.restartCause <;> rfl

end Sys2Proof.Machine
end

section
/-!
PROOFS. FORMAT, RESTART and the refusal of a malformed request (chapter 3, R56, R57, R69; chapter 9, R168, R172).
-/
namespace Sys2Proof.Machine

/-! ## FORMAT (R56, R57) -/

section
variable {s : State}

theorem State.stopLines_of_not_active (h : s.output.phase ≠ .active) : s.stopLines = s := if_neg h

/-- Stopping the lines changes the lines sent and the overlay-budget flag, and without a composition the lines alone. -/
theorem State.stopLines_sent (s : State) : ∃ lines budget, (s.compositor = .idle → budget = s.overlay.budget) ∧
    s.stopLines = (s.setPort { s.port with lines := lines }).setOverlay { s.overlay with budget := budget } := by
  by_cases h : s.output.phase = .active
  · refine ⟨_, s.overlay.budget || s.budgetExceeded s.linesByNow, fun hidle => ?_, if_pos h⟩
    rw [State.budgetExceeded, State.scene_of_idle hidle]
    exact Bool.or_false _
  · exact ⟨s.port.lines, s.overlay.budget, fun _ => rfl, if_neg h⟩

variable {m : Message} {f : FormatNo} (hf : u8 m.payload 0 = f.val)
include hf

theorem formatEffect_refused (hrun : s.output.opState = .run) (hchange : ¬ (f = 0 ∧ s.output.format = 0 ∧ s.output.clock = .locked)) :
    formatEffect m s = refuse s .badState := by
  have hno : ¬ (decide (f = 0) && (decide (f = s.output.format) && decide (s.output.clock = .locked))) = true := fun h => by
    simp only [Bool.and_eq_true, decide_eq_true_eq] at h
    obtain ⟨h0, hsame, hlocked⟩ := h
    exact hchange ⟨h0, hsame ▸ h0, hlocked⟩
  unfold formatEffect
  rw [hf, toFin?_val]
  dsimp only
  rw [if_pos (s.isRun_iff.mpr hrun), if_neg hno]

theorem formatEffect_unchanged (hop : s.output.opState = .config ∨ f = 0) (hsame : f = s.output.format)
    (hlocked : s.output.clock = .locked) : formatEffect m s = done s [] := by
  have hunchanged : (decide (f = s.output.format) && decide (s.output.clock = .locked)) = true := by simp [hsame, hlocked]
  unfold formatEffect
  rw [hf, toFin?_val]
  dsimp only
  rw [hunchanged, if_pos rfl]
  split_ifs with hrun h0
  · rfl
  · rcases hop with hop | hop
    · exact nomatch hop.symm.trans (s.isRun_iff.mp hrun)
    · simp [hop] at h0
  · rfl

section
variable (hop : s.output.opState = .config) (hchange : ¬ (f = s.output.format ∧ s.output.clock = .locked))
include hop hchange

theorem formatEffect_changed : formatEffect m s = if f = 0 then done (s.stopLines.lockIn 0) [] else
    ⟨(s.stopLines.beginAttempt .format f).setMgmt { s.stopLines.mgmt with executor := .attempt m }, none⟩ := by
  have hrun : ¬ s.isRun = true := fun h => nomatch hop.symm.trans (s.isRun_iff.mp h)
  have hno : ¬ (decide (f = s.output.format) && decide (s.output.clock = .locked)) = true := by simpa using hchange
  unfold formatEffect
  rw [hf, toFin?_val]
  dsimp only
  rw [if_neg hrun, if_neg hno]
  rfl

end

end

section
variable {s : State} {t : PartTime} {tag target sub : Byte} {index : BitVec 16} {b : Byte} {rest : List Message}
  (h : s.Awaits (request 9 tag target sub index [b]) rest)
include h

theorem exec_format {s' : State} {r : Result} (heffect : formatEffect (request 9 tag target sub index [b]) (s.taken t rest) = ⟨s', some (r, [])⟩) :
    exec (.format t) s = .next (s'.answered tag 9 0 r []) := exec_request (row := .format) h rfl rfl heffect

/-- A lock attempt that begins holds the reply back (R57). -/
theorem exec_format_attempt {s' : State} (heffect : formatEffect (request 9 tag target sub index [b]) (s.taken t rest) = ⟨s', none⟩) :
    exec (.format t) s = .next s' := by
  have hexec : executeRequest .format t formatEffect s = (formatEffect _ (s.taken t rest)).settle _ :=
    executeRequest_of_awaits t formatEffect h rfl rfl
  rw [heffect] at hexec
  exact (exec_command .format t s).trans (congrArg _ hexec)

end

/-- Settles O25: the branches of the effect, and the cut lines where the frame is in its active period. -/
theorem formatActsByTheOperatingState : Obligations.FormatActsByTheOperatingState := by
  intro s t f rest tag target sub index
  refine ⟨fun h => ?_, fun b hb h => ?_⟩
  · have hf : u8 (request 9 tag target sub index [byteOf f.val]).payload 0 = f.val := toNat_byteOf_of_lt (by omega)
    refine ⟨fun hrun hchange => ?_, fun hop hsame hlocked => ?_, fun hop h0 hphase hchange => ?_, fun hop h0 hphase hchange => ?_,
      fun hop hphase hchange => ?_⟩
    · exact exec_format h (formatEffect_refused (s := s.taken t rest) hf hrun hchange)
    · exact exec_format h (formatEffect_unchanged (s := s.taken t rest) hf hop hsame hlocked)
    · have he := formatEffect_changed (s := s.taken t rest) hf hop hchange
      rw [if_pos h0, State.stopLines_of_not_active (s := s.taken t rest) hphase] at he
      exact exec_format h he
    · have he := formatEffect_changed (s := s.taken t rest) hf hop hchange
      rw [if_neg h0, State.stopLines_of_not_active (s := s.taken t rest) hphase] at he
      exact exec_format_attempt h he
    · have he := formatEffect_changed (s := s.taken t rest) hf hop hchange
      obtain ⟨lines, budget, hidle, hsent⟩ := (s.taken t rest).stopLines_sent
      rw [hsent] at he
      by_cases h0 : f = 0
      · rw [if_pos h0] at he
        refine ⟨_, exec_format h he, fun hc => ?_, (if_pos h0).symm ▸ rfl⟩
        rw [hidle hc]
        rfl
      · rw [if_neg h0] at he
        refine ⟨_, exec_format_attempt h he, fun hc => ?_, (if_neg h0).symm ▸ rfl⟩
        rw [hidle hc]
        rfl
  · refine exec_format h ?_
    have hbad : toFin? 4 (u8 (request 9 tag target sub index [b]).payload 0) = none := toFin?_eq_none hb
    unfold formatEffect
    rw [hbad]
    rfl

/-! ## RESTART (R69, R172) -/

/-- A RESTART is taken even while the reply queue is full (R170, R172). -/
theorem exec_restart {s : State} {t : PartTime} {m : Message} {rest : List Message} (hidle : s.mgmt.executor = .idle)
    (hhead : s.mgmt.requests = m :: rest) (hrow : requestRow m = .restart) (hok : wholeMessageOk m = true) :
    exec (.restart t) s = .next (s.taken t rest).softRestart := by
  have hrestart : isRestart m = true := by
    rw [isRestart, hrow, hok]
    rfl
  have hcan : canTake (s.atTime t) = true := by
    simp only [canTake, State.atTime_mgmt, hidle, hhead, hrestart, Bool.or_true]
  have htake : takeRequest .restart (s.atTime t) = some (m, s.taken t rest) := by
    simp only [takeRequest, State.atTime_mgmt, hhead, hcan, hrow, decide_true, Bool.and_self]
    rfl
  have hexec : executeRequest .restart t restartEffect s = (s.taken t rest).softRestart := by
    unfold executeRequest
    rw [htake]
    dsimp only
    rw [hok]
    rfl
  exact (exec_command .restart t s).trans (congrArg _ hexec)

/-- What a soft restart makes of the overlay engine, and what it leaves. -/
theorem State.softRestart_overlay (s : State) : s.softRestart.overlay = s.overlay.restarted ∧ s.softRestart.partTime = s.partTime ∧
    s.softRestart.pending = s.pending := by
  unfold State.softRestart
  split_ifs
  · obtain ⟨port, budget, he⟩ := s.stopLines_eq
    rw [he]
    exact ⟨rfl, rfl, rfl⟩
  · exact ⟨rfl, rfl, rfl⟩

/-- Settles O27: the soft restart, block by block. -/
theorem restartResetsTheBlocks : Obligations.RestartResetsTheBlocks := by
  intro s t rest tag target sub index hidle hhead
  have hexec : exec (.restart t) s = .next (s.taken t rest).softRestart := exec_restart hidle hhead rfl rfl
  obtain ⟨houtput, hmgmt, hselector, -, hmonitor, hcompositor⟩ := (s.taken t rest).softRestart_run
  obtain ⟨hoverlay, htime, hpending⟩ := (s.taken t rest).softRestart_overlay
  have hpool : (s.taken t rest).softRestart.pool = .initial s.pool.pixels := State.softRestart_pool _
  refine ⟨_, hexec, htime, hpending, houtput, fun c => State.softRestart_channel _ c, fun k => ?_, fun c => ?_, ?_,
    fun v => State.softRestart_view _ v, hselector, hcompositor, hoverlay, fun z => ?_, fun i hi => ?_, hmgmt⟩
  · rw [hpool]
    rfl
  · rw [hpool]
    exact ⟨PerCamera.get_build _ c, PerCamera.get_build _ c⟩
  · rw [hpool]
    rfl
  · rw [hmonitor]
    exact ZoneMonitor.restarted_zone _ z
  · rw [hmonitor]
    exact ZoneMonitor.background_resumeAll _ hi

/-! ## A request that fails the whole-message tests (R168) -/

section
variable {m : Message}

theorem pushReply_answered (s : State) (m : Message) (r : Result) (p : List Byte) :
    s.pushReply m r p = s.answered m.tag m.kind (if m.kind = 2 ∨ m.kind = 3 then m.target else 0) r p := by
  have htable : isTableRequest m = true ↔ m.kind = 2 ∨ m.kind = 3 := by simp [isTableRequest]
  rw [State.pushReply, replyTo]
  simp only [htable]
  rfl

theorem wholeMessageOk_iff : wholeMessageOk m = true ↔ requestRow m ≠ .undefinedRequest ∧ bankDefined m = true ∧ lengthSuits m = true := by
  rw [wholeMessageOk, Bool.and_eq_true, Bool.and_eq_true, decide_eq_true_eq, and_assoc]

theorem wholeMessageOk_of_row (h : requestRow m = .undefinedRequest) : wholeMessageOk m = false :=
  Bool.eq_false_iff.mpr fun hok => (wholeMessageOk_iff.mp hok).1 h

theorem wholeMessageOk_of_bank (h : bankDefined m = false) : wholeMessageOk m = false :=
  Bool.eq_false_iff.mpr fun hok => Bool.noConfusion (h.symm.trans (wholeMessageOk_iff.mp hok).2.1)

theorem wholeMessageOk_of_length (h : lengthSuits m = false) : wholeMessageOk m = false :=
  Bool.eq_false_iff.mpr fun hok => Bool.noConfusion (h.symm.trans (wholeMessageOk_iff.mp hok).2.2)

end

theorem writeRow_undefined {target : Byte} (h : target = 0 ∨ 12 < target.toNat) : writeRow target = .undefinedRequest := by
  have h0 : target.toNat = 0 ∨ 12 < target.toNat := h.imp_left (congrArg BitVec.toNat)
  unfold writeRow
  split
  case h_13 => rfl
  all_goals omega

theorem readRow_undefined {target : Byte} (h : target = 0 ∨ 12 < target.toNat) : readRow target = .undefinedRequest := by
  have h0 : target.toNat = 0 ∨ 12 < target.toNat := h.imp_left (congrArg BitVec.toNat)
  unfold readRow
  split
  case h_13 => rfl
  all_goals omega

theorem viewRow_undefined {p : List Byte} (h : u8 p 0 = 0 ∨ 4 < u8 p 0) : viewRow p = .undefinedRequest := by
  unfold viewRow
  split
  case h_5 => rfl
  all_goals omega

section
variable {m : Message}

/-- The undefined classes, kinds, targets and view actions (R168, R183, R184). -/
theorem requestRow_undefined (h : m.cls ≠ 1 ∨ m.kind = 0 ∨ 11 < m.kind.toNat ∨
    (m.kind = 2 ∨ m.kind = 3) ∧ (m.target = 0 ∨ 12 < m.target.toNat) ∨ m.kind = 4 ∧ (u8 m.payload 0 = 0 ∨ 4 < u8 m.payload 0)) :
    requestRow m = .undefinedRequest := by
  by_cases hcls : m.cls ≠ 1
  · exact if_pos hcls
  refine (if_neg hcls).trans ?_
  rcases h.resolve_left hcls with hkind | hkind | ⟨hkind | hkind, htarget⟩ | ⟨hkind, haction⟩
  · rw [hkind]
    rfl
  · split
    case h_12 => rfl
    all_goals omega
  · rw [hkind]
    exact writeRow_undefined htarget
  · rw [hkind]
    exact readRow_undefined htarget
  · rw [hkind]
    exact viewRow_undefined haction

theorem bankDefined_false (hkind : m.kind = 2 ∨ m.kind = 3) (hlow : 4 ≤ m.target.toNat) (hhigh : m.target.toNat ≤ 7)
    (hbank : 1 < m.sub.toNat) : bankDefined m = false := by
  have htable : isTableRequest m = true := by simpa [isTableRequest] using hkind
  simp [bankDefined, htable, hlow, hhigh, hbank]

/-- The lengths of the writes, target by target (R184). -/
theorem writeLengthSuits_cases {target : Byte} {n : Nat} (h : writeLengthSuits target n = true) : (target.toNat, n) ∈
    [(1, 21), (2, 17), (3, 42), (4, 24), (5, 7), (7, 57), (8, 17), (9, 3), (10, 13), (11, 10), (12, 0)] ∨
      target = 6 ∧ 1 ≤ n ∧ n ≤ 64 := by
  unfold writeLengthSuits at h
  split at h
  case h_6 heq => exact .inr ⟨BitVec.eq_of_toNat_eq heq, by simpa using h⟩
  case h_13 => exact Bool.noConfusion h
  all_goals
    refine .inl ?_
    simp_all

theorem toNat_beq_false {b : Byte} {n : Nat} (h : b.toNat ≠ n) : (b.toNat == n) = false := beq_false_of_ne h

end

/-- Settles O30: the row of an undefined request, the bank test and the length test, kind by kind. -/
theorem malformedRequestsAreRefused : Obligations.MalformedRequestsAreRefused := by
  intro s t m rest h
  have hrefused (hbad : wholeMessageOk m = false) : exec ((requestRow m).command t) s = .next
      ((s.taken t rest).answered m.tag m.kind (if m.kind = 2 ∨ m.kind = 3 then m.target else 0) .malformed []) := by
    rw [exec_command, executeRequest_malformed t _ h rfl hbad, pushReply_answered]
  refine ⟨hrefused, fun hundefined => ?_, fun hkind hlow hhigh hbank => wholeMessageOk_of_bank (bankDefined_false hkind hlow hhigh hbank),
    fun hkind hlength => wholeMessageOk_of_length ?_, fun hkind hnot hsprite => wholeMessageOk_of_length ?_,
    fun hkind hlength => wholeMessageOk_of_length ?_, fun hkind hlength => wholeMessageOk_of_length ?_,
    fun hkind hlength => wholeMessageOk_of_length ?_, fun hkind hlength => wholeMessageOk_of_length ?_,
    fun hkind hlength => wholeMessageOk_of_length ?_⟩
  · have hrow := requestRow_undefined hundefined
    have hbad := wholeMessageOk_of_row hrow
    have hexec := hrefused hbad
    rw [hrow] at hexec
    exact ⟨hbad, hexec⟩
  · have hne : m.length.toNat ≠ 0 := fun h0 => hlength (BitVec.eq_of_toNat_eq h0)
    rcases hkind with hkind | hkind | hkind | hkind <;> rw [lengthSuits, hkind] <;> exact toNat_beq_false hne
  · rw [lengthSuits, hkind]
    exact Bool.eq_false_iff.mpr fun hok => (writeLengthSuits_cases hok).elim hnot hsprite
  · rw [lengthSuits, hkind]
    exact toNat_beq_false hlength
  · rw [lengthSuits, hkind]
    exact toNat_beq_false hlength
  · have hne : m.length.toNat ≠ 1 := fun h1 => hlength (BitVec.eq_of_toNat_eq h1)
    rcases hkind with hkind | hkind <;> rw [lengthSuits, hkind] <;> exact toNat_beq_false hne
  · rw [lengthSuits, hkind]
    exact toNat_beq_false fun h2 => hlength (BitVec.eq_of_toNat_eq h2)
  · rw [lengthSuits, hkind]
    exact toNat_beq_false fun h6 => hlength (BitVec.eq_of_toNat_eq h6)

end Sys2Proof.Machine
end

section
/-!
PROOFS. STATUS_READ and the reads of the tables (chapter 9, R174, R175; chapter 10, R188, R189).
-/
namespace Sys2Proof.Machine

/-! ## A read of a numbered record (R174) -/

section
variable {n : Nat} [NeZero n] {m : Message} {s : State} {f : Fin n → List Byte}

theorem readIndexed_of_eq {i : Fin n} (h : m.index.toNat = i.val) : readIndexed n m s f = done s (f i) := by
  rw [readIndexed, h, toFin?_val]

theorem readIndexed_of_lt (h : m.index.toNat < n) : readIndexed n m s f = done s (f ⟨m.index.toNat, h⟩) :=
  readIndexed_of_eq (i := ⟨m.index.toNat, h⟩) rfl

theorem readIndexed_beyond (h : n ≤ m.index.toNat) : readIndexed n m s f = refuse s .badIndex := by
  rw [readIndexed, toFin?_eq_none h]

end

section
variable {row : RequestRow} {s : State} {t : PartTime} {rest : List Message} {tag target sub : Byte} {index : BitVec 16}
  {payload p : List Byte} (h : s.Awaits (request 3 tag target sub index payload) rest)
  (hrow : requestRow (request 3 tag target sub index payload) = row)
  (hok : wholeMessageOk (request 3 tag target sub index payload) = true)
include h hrow hok

/-- A read answers with the record and changes nothing. -/
theorem exec_read_done
    (heffect : row.effect (request 3 tag target sub index payload) (s.taken t rest) = done (s.taken t rest) p) :
    exec (row.command t) s = .next ((s.taken t rest).answered tag 3 target .ok p) := exec_request h hrow hok heffect

/-- A read beyond its table is refused. -/
theorem exec_read_beyond
    (heffect : row.effect (request 3 tag target sub index payload) (s.taken t rest) = refuse (s.taken t rest) .badIndex) :
    exec (row.command t) s = .next ((s.taken t rest).answered tag 3 target .badIndex []) := exec_request h hrow hok heffect

end

/-! ## The reads of a bank (R140, R183) -/

section
variable {m : Message} {s : State} {bank : BankId}

theorem bankOf_request {kind tag target : Byte} {index : BitVec 16} {payload : List Byte} (bank : BankId) :
    bankOf (request kind tag target (if bank = .a then 0 else 1) index payload) = bank := by
  cases bank <;> rfl

theorem wholeMessageOk_bankRead {tag target : Byte} {index : BitVec 16} (bank : BankId) (h : target = 4 ∨ target = 5 ∨ target = 7) :
    wholeMessageOk (request 3 tag target (if bank = .a then 0 else 1) index []) = true := by
  rcases h with rfl | rfl | rfl <;> cases bank <;> rfl

theorem wholeMessageOk_spriteRead {tag len : Byte} {index : BitVec 16} (bank : BankId) :
    wholeMessageOk (request 3 tag 6 (if bank = .a then 0 else 1) index [len]) = true := by
  cases bank <;> rfl

theorem readElementRecord_of_lt (hbank : bankOf m = bank) (h : m.index.toNat < 64) :
    readElementRecord m s = done s (encodeElement ((s.overlay.bank bank).element m.index.toNat)) := by
  subst hbank
  exact readIndexed_of_lt h

theorem readPaletteEntry_of_lt (hbank : bankOf m = bank) (h : m.index.toNat < 16) :
    readPaletteEntry m s = done s (encodePalette ((s.overlay.bank bank).paletteEntry m.index.toNat)) := by
  subst hbank
  exact readIndexed_of_lt h

theorem readBandRecord_of_lt (hbank : bankOf m = bank) (h : m.index.toNat < 31) :
    readBandRecord m s = done s (encodeBand ((s.overlay.bank bank).band m.index.toNat)) := by
  subst hbank
  exact readIndexed_of_lt h

theorem chunkInArea_iff (offset length : Nat) : chunkInArea offset length = true ↔ offset ≤ 16383 ∧ offset + length ≤ 16384 := by
  rw [chunkInArea, Bool.and_eq_true, decide_eq_true_eq, decide_eq_true_eq]

theorem readSprite_of_chunk (hbank : bankOf m = bank) (hlow : 1 ≤ u8 m.payload 0) (hhigh : u8 m.payload 0 ≤ 64)
    (hstart : m.index.toNat ≤ 16383) (hend : m.index.toNat + u8 m.payload 0 ≤ 16384) : readSprite m s =
      done s ((List.range (u8 m.payload 0)).map fun i => (s.overlay.bank bank).spriteByte (m.index.toNat + i)) := by
  subst hbank
  exact if_pos ⟨hlow, hhigh, (chunkInArea_iff _ _).mpr ⟨hstart, hend⟩⟩

theorem readSprite_beyond (h : u8 m.payload 0 = 0 ∨ 64 < u8 m.payload 0 ∨ 16383 < m.index.toNat ∨
    16384 < m.index.toNat + u8 m.payload 0) : readSprite m s = refuse s .badIndex := by
  refine if_neg fun ⟨hlow, hhigh, harea⟩ => ?_
  obtain ⟨hstart, hend⟩ := (chunkInArea_iff _ _).mp harea
  omega

end

/-! ## The reads with items that are read only (R74, R118, R154, R175) -/

theorem byteOf_bit (b : Bool) : byteOf (bit b) = if b = true then 1 else 0 := by
  cases b <;> rfl

theorem readTileRecord_of_eq {m : Message} {s : State} {v : ViewNo} (hv : m.sub.toNat = v.val) (hn : m.index.toNat < 1024) :
    readTileRecord m s = done s (encodeTile (Table.read TileRecord.cleared (s.view v).tiles m.index.toNat) ++
      [if Table.read false (s.view v).written m.index.toNat = true then 1 else 0]) := by
  rw [readTileRecord, hv, toFin?_val, ← byteOf_bit]
  exact readIndexed_of_lt hn

theorem readTileRecord_beyond {m : Message} {s : State} (h : 7 < m.sub.toNat ∨ 1023 < m.index.toNat) :
    readTileRecord m s = refuse s .badIndex := by
  unfold readTileRecord
  split
  · rfl
  · next v hv =>
    have hsub : m.sub.toNat = v.val := (toFin?_eq_some_iff v).mp hv
    exact readIndexed_beyond (h.resolve_left (by omega))

theorem readCounters_of_camera {m : Message} {s : State} {c : Camera} (h : m.index.toNat = c.val) :
    readCounters m s = done s (encodeCounters (s.channel c).counters ++ encodeFrameRecord (s.channel c).lastFrame) := by
  rw [readCounters, h, toFin?_val]

theorem readCounters_drops {m : Message} {s : State} (h : m.index.toNat = 4) : readCounters m s = done s s.mgmt.encodeDrops := by
  have hindex : m.index = 4 := BitVec.eq_of_toNat_eq h
  rw [readCounters, toFin?_eq_none h.ge]
  exact if_pos hindex

theorem readCounters_beyond {m : Message} {s : State} (h : 4 < m.index.toNat) : readCounters m s = refuse s .badIndex := by
  have hindex : m.index ≠ 4 := fun he => absurd (congrArg BitVec.toNat he) h.ne'
  rw [readCounters, toFin?_eq_none h.le]
  exact if_neg hindex

theorem opState_byte (o : OpState) : byteOf o.code = if o = .run then 1 else 0 := by
  cases o <;> rfl

theorem clock_byte (k : Clock) : byteOf k.code = if k = .locked then 0 else 1 := by
  cases k <;> rfl

theorem restartCause_byte (x : RestartCause) : byteOf x.code = if x = .request then 1 else 0 := by
  cases x <;> rfl

/-- Settles O32: STATUS_READ, then the reads target by target. -/
theorem readsChangeNothing : Obligations.ReadsChangeNothing := by
  intro s t rest tag target sub index bank n read ok beyond bankByte counters drops lastFrame viewState zoneItems entry gear indicator
    signals
  refine ⟨fun h => ?_, fun h => ⟨fun c hc => ?_, fun hn => ?_⟩, fun h => ⟨fun v hv => ?_, fun hn => ?_⟩,
    fun h => ⟨fun v hv hn => ?_, fun hbad => ?_⟩, fun h => ⟨fun hn => ?_, fun hn => ?_⟩, fun h => ⟨fun hn => ?_, fun hn => ?_⟩,
    fun len h => ⟨fun hlow hhigh hn hend => ?_, fun hbad => ?_⟩, fun h => ⟨fun hn => ?_, fun hn => ?_⟩,
    fun h => ⟨fun hn => ?_, fun hn => ?_⟩, fun h => ?_, fun h => ⟨fun z hz => ?_, fun hn => ?_⟩, fun h => ?_,
    fun h => ⟨fun c hc => ?_, fun hn => ?_, fun hn => ?_⟩⟩
  · have hcounters : allCameras.flatMap (fun c => encodeCounters (s.channel c).counters) = counters (s.channel 0).counters ++
        counters (s.channel 1).counters ++ counters (s.channel 2).counters ++ counters (s.channel 3).counters := by
      simp only [allCameras, List.flatMap_cons, List.flatMap_nil, List.append_nil, List.append_assoc]
      rfl
    rw [← hcounters, ← opState_byte, ← clock_byte, ← restartCause_byte]
    exact exec_request (row := .statusRead) h rfl rfl rfl
  · exact exec_read_done (row := .tableReadCameraRecord) h rfl rfl (readIndexed_of_eq hc)
  · exact exec_read_beyond (row := .tableReadCameraRecord) h rfl rfl (readIndexed_beyond hn)
  · have hstate : byteOf (s.view v).state.code = viewState (s.view v) := by
      show byteOf (s.view v).state.code = _
      simp only [viewState]
      cases (s.view v).state <;> rfl
    have heffect : readHeader (read 2 sub) (s.taken t rest) = done _ _ := readIndexed_of_eq hv
    rw [State.taken_view, byteOf_bit, hstate] at heffect
    exact exec_read_done (row := .tableReadViewHeader) h rfl rfl heffect
  · exact exec_read_beyond (row := .tableReadViewHeader) h rfl rfl (readIndexed_beyond hn)
  · exact exec_read_done (row := .tableReadTile) h rfl rfl (readTileRecord_of_eq hv hn)
  · exact exec_read_beyond (row := .tableReadTile) h rfl rfl (readTileRecord_beyond hbad)
  · exact exec_read_done (row := .tableReadOverlayElement) h rfl (wholeMessageOk_bankRead bank (.inl rfl))
      (readElementRecord_of_lt (bankOf_request bank) hn)
  · exact exec_read_beyond (row := .tableReadOverlayElement) h rfl (wholeMessageOk_bankRead bank (.inl rfl)) (readIndexed_beyond hn)
  · exact exec_read_done (row := .tableReadPaletteEntry) h rfl (wholeMessageOk_bankRead bank (.inr (.inl rfl)))
      (readPaletteEntry_of_lt (bankOf_request bank) hn)
  · exact exec_read_beyond (row := .tableReadPaletteEntry) h rfl (wholeMessageOk_bankRead bank (.inr (.inl rfl))) (readIndexed_beyond hn)
  · exact exec_read_done (row := .tableReadSpriteChunk) h rfl (wholeMessageOk_spriteRead bank)
      (readSprite_of_chunk (bankOf_request bank) hlow hhigh hn hend)
  · exact exec_read_beyond (row := .tableReadSpriteChunk) h rfl (wholeMessageOk_spriteRead bank)
      (readSprite_beyond (hbad.imp_left (congrArg BitVec.toNat)))
  · exact exec_read_done (row := .tableReadPathBand) h rfl (wholeMessageOk_bankRead bank (.inr (.inr rfl)))
      (readBandRecord_of_lt (bankOf_request bank) hn)
  · exact exec_read_beyond (row := .tableReadPathBand) h rfl (wholeMessageOk_bankRead bank (.inr (.inr rfl))) (readIndexed_beyond hn)
  · exact exec_read_done (row := .tableReadRule) h rfl rfl (readIndexed_of_lt hn)
  · exact exec_read_beyond (row := .tableReadRule) h rfl rfl (readIndexed_beyond hn)
  · exact exec_read_done (row := .tableReadSelectionSettings) h rfl rfl rfl
  · have hitems : [byteOf (s.monitor.zone z).state.code, byteOf (s.monitor.zone z).state.count] ++ le16 (s.monitor.zone z).lastChanged ++
        le32 (s.monitor.zone z).state.holdStart = zoneItems (s.monitor.zone z) := by
      have hzero : le32 0 = [0, 0, 0, 0] := rfl
      cases hstate : (s.monitor.zone z).state <;>
        simp only [zoneItems, hstate, ZoneState.code, ZoneState.count, ZoneState.holdStart, hzero] <;> rfl
    have heffect : readZone (read 10 sub) (s.taken t rest) = done _ _ := readIndexed_of_eq hz
    rw [State.taken_monitor, encodeZone, List.append_assoc, List.append_assoc, ← List.append_assoc [_, _], hitems] at heffect
    exact exec_read_done (row := .tableReadZoneRecord) h rfl rfl heffect
  · exact exec_read_beyond (row := .tableReadZoneRecord) h rfl rfl (readIndexed_beyond hn)
  · have hgear : byteOf s.selector.signals.gear.value.code = gear := by
      simp only [gear]
      cases s.selector.signals.gear.value <;> rfl
    have hindicator : byteOf s.selector.signals.indicator.value.code = indicator := by
      simp only [indicator]
      cases s.selector.signals.indicator.value <;> rfl
    have hentry {α : Type} (x : SignalEntry α) (value : List Byte) : encodeEntry x value = entry x.status value x.arrival := by
      simp only [encodeEntry, entry]
      cases x.status <;> rfl
    have hsignals : encodeSignals s.selector.signals = signals s.selector.signals := by
      rw [encodeSignals, hgear, hindicator]
      simp only [hentry]
      rfl
    rw [← hsignals]
    exact exec_read_done (row := .tableReadSignalTimeouts) h rfl rfl rfl
  · exact exec_read_done (row := .tableReadCounters) h rfl rfl (readCounters_of_camera hc)
  · exact exec_read_done (row := .tableReadCounters) h rfl rfl (readCounters_drops hn)
  · exact exec_read_beyond (row := .tableReadCounters) h rfl rfl (readCounters_beyond hn)

end Sys2Proof.Machine
end

section
/-!
PROOFS. The writes of the selector's targets and of the zones (chapter 6, R118, R120, R126; chapter 8, R154, R156; chapter 9, R174).
-/
namespace Sys2Proof.Machine

/-! ## A write executed -/

/-- A write answers with what its row's effect makes of it. -/
theorem exec_write {row : RequestRow} {s s' : State} {t : PartTime} {rest : List Message} {tag target sub : Byte} {index : BitVec 16}
    {payload p : List Byte} {r : Result} (h : s.Awaits (request 2 tag target sub index payload) rest)
    (hrow : requestRow (request 2 tag target sub index payload) = row)
    (hok : wholeMessageOk (request 2 tag target sub index payload) = true)
    (heffect : row.effect (request 2 tag target sub index payload) (s.taken t rest) = ⟨s', some (r, p)⟩) :
    exec (row.command t) s = .next (s'.answered tag 2 target r p) := exec_request h hrow hok heffect

theorem u8_lt (p : List Byte) (i : Nat) : u8 p i < 256 := (byteAt p i).isLt

/-! ## The fields of a payload -/

theorem exists_onOff? {b : Nat} (h : b ≤ 1) : ∃ x, onOff? b = some x := by
  rcases Nat.le_one_iff_eq_zero_or_eq_one.mp h with rfl | rfl
  · exact ⟨false, rfl⟩
  · exact ⟨true, rfl⟩

/-- A switch that is read is on exactly where its byte is 1. -/
theorem onOff?_iff_one {b : Nat} {x : Bool} (h : onOff? b = some x) : x = true ↔ b = 1 := by
  rw [(onOff?_eq_some_iff b x).mp h]
  cases x <;> decide

theorem exists_toFin? {n k : Nat} [NeZero n] (h : k < n) : ∃ x : Fin n, toFin? n k = some x := ⟨Fin.ofNat n k, if_pos h⟩

section
variable {p : List Byte}

theorem speedCondition?_any (h : u8 p 3 = 0) : speedCondition? p = some .any := by
  rw [speedCondition?, h]
  rfl

theorem speedCondition?_range (h : u8 p 3 = 1) : speedCondition? p = some (.range (min 1500 (u16 p 4)) (min 1500 (u16 p 6))) := by
  rw [speedCondition?, h, ← clampNat_zero, ← clampNat_zero]
  rfl

theorem speedCondition?_eq_none (h : 1 < u8 p 3) : speedCondition? p = none := by
  unfold speedCondition?
  split
  · omega
  · omega
  · rfl

theorem exists_speedCondition? (h : u8 p 3 ≤ 1) : ∃ x, speedCondition? p = some x :=
  (Nat.le_one_iff_eq_zero_or_eq_one.mp h).elim (fun h0 => ⟨_, speedCondition?_any h0⟩) fun h1 => ⟨_, speedCondition?_range h1⟩

theorem steerCondition?_any (h : u8 p 8 = 0) : steerCondition? p = some .any := by
  rw [steerCondition?, h]
  rfl

theorem steerCondition?_range (h : u8 p 8 = 1) :
    steerCondition? p = some (.range (max (-450) (min 450 (s16 p 9))) (max (-450) (min 450 (s16 p 11)))) := by
  rw [steerCondition?, h, ← clampInt_eq_max_min (by decide), ← clampInt_eq_max_min (by decide)]
  rfl

theorem steerCondition?_eq_none (h : 1 < u8 p 8) : steerCondition? p = none := by
  unfold steerCondition?
  split
  · omega
  · omega
  · rfl

theorem exists_steerCondition? (h : u8 p 8 ≤ 1) : ∃ x, steerCondition? p = some x :=
  (Nat.le_one_iff_eq_zero_or_eq_one.mp h).elim (fun h0 => ⟨_, steerCondition?_any h0⟩) fun h1 => ⟨_, steerCondition?_range h1⟩

/-! ## The reading of a rule (R120) -/

theorem readRule_badIndex (h : 7 < u8 p 15) : readRule p = .error .badIndex := by
  rw [readRule, toFin?_eq_none h]

theorem readRule_malformed (htarget : u8 p 15 ≤ 7) (h : 1 < u8 p 0 ∨ 1 < u8 p 16 ∨ 1 < u8 p 3 ∨ 1 < u8 p 8) :
    readRule p = .error .malformed := by
  obtain ⟨v, hv⟩ := exists_toFin? (n := 8) (Nat.lt_succ_of_le htarget)
  unfold readRule
  rw [hv]
  dsimp only
  split
  · next enable immediate speed steer henable himmediate hspeed hsteer =>
    rcases h with h | h | h | h
    · exact nomatch henable.symm.trans (onOff?_eq_none h)
    · exact nomatch himmediate.symm.trans (onOff?_eq_none h)
    · exact nomatch hspeed.symm.trans (speedCondition?_eq_none h)
    · exact nomatch hsteer.symm.trans (steerCondition?_eq_none h)
  · rfl

theorem exists_readRule (htarget : u8 p 15 ≤ 7) (h0 : u8 p 0 ≤ 1) (h16 : u8 p 16 ≤ 1) (h3 : u8 p 3 ≤ 1) (h8 : u8 p 8 ≤ 1) :
    ∃ r, readRule p = .ok r := by
  obtain ⟨v, hv⟩ := exists_toFin? (n := 8) (Nat.lt_succ_of_le htarget)
  obtain ⟨enable, henable⟩ := exists_onOff? h0
  obtain ⟨immediate, himmediate⟩ := exists_onOff? h16
  obtain ⟨speed, hspeed⟩ := exists_speedCondition? h3
  obtain ⟨steer, hsteer⟩ := exists_steerCondition? h8
  refine ⟨clampedRule p v enable immediate speed steer, ?_⟩
  rw [readRule, hv, henable, himmediate, hspeed, hsteer]
  rfl

end

/-! ## The writes of the selector (R118, R120, R126) -/

section
variable {m : Message} {s : State}

theorem writeRule_badIndex (h : 15 < m.index.toNat) : writeRule m s = refuse s .badIndex := by
  rw [writeRule, toFin?_eq_none h]

theorem writeRule_error {r : Result} (hindex : m.index.toNat ≤ 15) (hread : readRule m.payload = .error r) : writeRule m s = refuse s r := by
  obtain ⟨i, hi⟩ := exists_toFin? (n := 16) (Nat.lt_succ_of_le hindex)
  rw [writeRule, hi, hread]

theorem writeRule_done {r : Rule} (hindex : m.index.toNat ≤ 15) (hread : readRule m.payload = .ok r) : writeRule m s =
    done (s.setSelector { s.selector with rules := Table.write Rule.cleared s.selector.rules m.index.toNat r }) (encodeRule r) := by
  obtain ⟨i, hi⟩ := exists_toFin? (n := 16) (Nat.lt_succ_of_le hindex)
  rw [writeRule, hi, hread, (toFin?_eq_some_iff i).mp hi]

theorem writeSettings_badIndex (h : 7 < u8 m.payload 0) : writeSettings m s = refuse s .badIndex := by
  rw [writeSettings, toFin?_eq_none h]

section
variable {v : ViewNo} (hv : u8 m.payload 0 = v.val)
include hv

theorem writeSettings_badState (hrun : s.output.opState = .run) (hstate : (s.view v).state ≠ .valid) :
    writeSettings m s = refuse s .badState := by
  have hvalid : s.viewValid v = false := Bool.eq_false_iff.mpr fun h => hstate ((s.viewValid_iff v).mp h)
  rw [writeSettings, hv, toFin?_val]
  exact if_pos ⟨s.isRun_iff.mpr hrun, hvalid⟩

theorem writeSettings_done (h : s.output.opState = .config ∨ (s.view v).state = .valid) : writeSettings m s =
    done (s.setSelector { s.selector with defaultView := v, dwell := min 2000 (u16 m.payload 1) })
      (byteOf v.val :: le16 (min 2000 (u16 m.payload 1))) := by
  have hok : ¬ (s.isRun = true ∧ s.viewValid v = false) := fun ⟨hrun, hvalid⟩ => by
    rcases h with h | h
    · exact nomatch h.symm.trans (s.isRun_iff.mp hrun)
    · exact Bool.noConfusion (hvalid.symm.trans ((s.viewValid_iff v).mpr h))
  rw [writeSettings, hv, toFin?_val, ← clampNat_zero]
  exact if_neg hok

end

end

/-- Settles O36: each target's tests in their order, then the record stored. -/
theorem selectorWritesAreTestedAndStored : Obligations.SelectorWritesAreTestedAndStored := by
  intro s t rest tag sub index payload
  refine ⟨fun hlen h => ?rule, fun hlen h => ?settings, fun hlen h => ?timeouts⟩
  case rule =>
    have hok : wholeMessageOk (request 2 tag 8 sub index payload) = true := by
      rw [request, hlen]
      rfl
    have hexec {s' : State} {r : Result} {p : List Byte}
        (he : writeRule (request 2 tag 8 sub index payload) (s.taken t rest) = ⟨s', some (r, p)⟩) :
        exec (.tableWriteRule t) s = .next (s'.answered tag 2 8 r p) := exec_write (row := .tableWriteRule) h rfl hok he
    refine ⟨fun hbad => ?_, fun hindex htarget hbad => hexec (writeRule_error hindex (readRule_malformed htarget hbad)),
      exists_readRule, fun r hindex hread => ⟨?_, _, hexec (writeRule_done hindex hread), fun i => Table.read_write _ _ _ _ _⟩⟩
    · by_cases hindex : 15 < index.toNat
      · exact hexec (writeRule_badIndex hindex)
      · exact hexec (writeRule_error (Nat.not_lt.mp hindex) (readRule_badIndex (hbad.resolve_left hindex)))
    · obtain ⟨target, enable, immediate, speed, steer, htarget, henable, himmediate, hspeed, hsteer, rfl⟩ := readRule_eq_ok hread
      have speedIs {x : RangeCondition Nat} (hx : speedCondition? payload = some x) : speed = x := Option.some.inj (hspeed.symm.trans hx)
      have steerIs {x : RangeCondition Int} (hx : steerCondition? payload = some x) : steer = x := Option.some.inj (hsteer.symm.trans hx)
      exact ⟨onOff?_iff_one henable, BitVec.toNat_ofNat _ 4, BitVec.toNat_ofNat _ 4, fun h0 => speedIs (speedCondition?_any h0),
        fun h1 => speedIs (speedCondition?_range h1), fun h0 => steerIs (steerCondition?_any h0),
        fun h1 => steerIs (steerCondition?_range h1), rfl, rfl, ((toFin?_eq_some_iff target).mp htarget).symm, onOff?_iff_one himmediate⟩
  case settings =>
    have hok : wholeMessageOk (request 2 tag 9 sub index payload) = true := by
      rw [request, hlen]
      rfl
    have hexec {s' : State} {r : Result} {p : List Byte}
        (he : writeSettings (request 2 tag 9 sub index payload) (s.taken t rest) = ⟨s', some (r, p)⟩) :
        exec (.tableWriteSelectionSettings t) s = .next (s'.answered tag 2 9 r p) :=
      exec_write (row := .tableWriteSelectionSettings) h rfl hok he
    exact ⟨fun hbad => hexec (writeSettings_badIndex hbad), fun v hv =>
      ⟨fun hrun hstate => hexec (writeSettings_badState (s := s.taken t rest) hv hrun hstate),
        fun hop => hexec (writeSettings_done (s := s.taken t rest) hv hop)⟩⟩
  case timeouts =>
    have hok : wholeMessageOk (request 2 tag 11 sub index payload) = true := by
      rw [request, hlen]
      rfl
    intro ms
    have hms (i : Nat) : clampNat 100 2000 (u16 payload i) = ms i := clampNat_eq_max_min (by decide) _
    rw [← hms 0, ← hms 2, ← hms 4, ← hms 6, ← hms 8]
    exact exec_write (row := .tableWriteSignalTimeouts) h rfl hok rfl

/-! ## The write of a zone record (R154, R156) -/

section
variable {s : State} {z : ZoneNo} {r : ZoneRecord}

theorem ZoneRecord.active_iff (r : ZoneRecord) (s : State) : r.active s.isRun s.selector.current = true ↔
    r.enable = true ∧ s.output.opState = .run ∧ ∃ v, s.selector.current = some v ∧ member r.viewMask v.val = true := by
  rw [ZoneRecord.active, Bool.and_eq_true, Bool.and_eq_true, s.isRun_iff, and_assoc]
  cases s.selector.current <;> simp [maskHas]

/-- An accepted write leaves its zone SETTLING where it is then active, DISARMED where it is not (R156). -/
theorem ZoneState.settled_written (st : ZoneState) (active : Bool) : st.settled active true = if active = true then .settling 8 else .disarmed := by
  cases active <;> rfl

/-- A zone written is not in ALERT or HOLDING afterwards, so ZONE_FALL is latched where it was before. -/
theorem fallLatch_written (z : ZoneNo) (st : ZoneState) (active : Bool) : fallLatch z st (st.settled active true) = latchIf st.marked (.zoneFall z) := by
  have hafter : (st.settled active true).marked = false := by
    rw [ZoneState.settled_written]
    cases active <;> rfl
  rw [fallLatch, hafter, Bool.not_false, Bool.and_true]

theorem State.writeZone_eq {st : ZoneState}
    (hst : (if r.active s.isRun s.selector.current = true then .settling 8 else .disarmed) = st) : s.writeZone z r =
      (s.setMonitor (s.monitor.setZone z { s.monitor.zone z with record := r, state := st })).raiseLatches
        (latchIf (s.monitor.zone z).state.marked (.zoneFall z)) := by
  rw [State.writeZone, fallLatch_written, ZoneState.settled_written, hst]

end

section
variable {m : Message} {s : State} {z : ZoneNo}

theorem writeZoneRecord_badIndex (h : 7 < m.index.toNat) : writeZoneRecord m s = refuse s .badIndex := by
  rw [writeZoneRecord, toFin?_eq_none h]

theorem writeZoneRecord_malformed (hz : m.index.toNat = z.val) (h : 1 < u8 m.payload 0) : writeZoneRecord m s = refuse s .malformed := by
  have hread : readZoneRecord m.payload = .error .malformed := by rw [readZoneRecord, onOff?_eq_none h]
  rw [writeZoneRecord, hz, toFin?_val, hread]

theorem writeZoneRecord_done {r : ZoneRecord} (hz : m.index.toNat = z.val) (hread : readZoneRecord m.payload = .ok r) :
    writeZoneRecord m s = done (s.writeZone z r) (encodeZoneRecord r) := by
  rw [writeZoneRecord, hz, toFin?_val, hread]

theorem exists_readZoneRecord {p : List Byte} (h : u8 p 0 ≤ 1) : ∃ r, readZoneRecord p = .ok r := by
  obtain ⟨enable, henable⟩ := exists_onOff? h
  refine ⟨clampedZoneRecord p enable, ?_⟩
  rw [readZoneRecord, henable]
  rfl

end

/-- Settles O37: the tests, the fields, and the activity settled by the record written. -/
theorem zoneRecordWriteSettlesActivity : Obligations.ZoneRecordWriteSettlesActivity := by
  intro s t rest tag sub index payload z
  refine ⟨fun hlen h => ?zone, fun h => exec_write (row := .tableWriteCounters) h rfl rfl rfl⟩
  case zone =>
    have hok : wholeMessageOk (request 2 tag 10 sub index payload) = true := by
      rw [request, hlen]
      rfl
    have hexec {s' : State} {r : Result} {p : List Byte}
        (he : writeZoneRecord (request 2 tag 10 sub index payload) (s.taken t rest) = ⟨s', some (r, p)⟩) :
        exec (.tableWriteZoneRecord t) s = .next (s'.answered tag 2 10 r p) := exec_write (row := .tableWriteZoneRecord) h rfl hok he
    refine ⟨fun hbad => hexec (writeZoneRecord_badIndex hbad), fun hz hbad => hexec (writeZoneRecord_malformed hz hbad),
      exists_readZoneRecord, fun r hz hread => ⟨?_, ?_⟩⟩
    · obtain ⟨enable, henable, rfl⟩ := readZoneRecord_eq_ok hread
      have htrigger := u8_lt payload 8
      exact ⟨onOff?_iff_one henable, clampNat_zero _ _, clampNat_zero _ _, clampNat_zero _ _, clampNat_zero _ _, rfl, clampNat_zero _ _,
        (clampNat_eq_max_min (by decide) _).trans (by omega), clampNat_eq_max_min (by decide) _, clampNat_zero _ _,
        clampNat_eq_max_min (by decide) _⟩
    · intro active written
      have hactive : r.active (s.taken t rest).isRun (s.taken t rest).selector.current = true ↔ active := r.active_iff (s.taken t rest)
      have hdone (st : ZoneState) (hst : (if r.active (s.taken t rest).isRun (s.taken t rest).selector.current = true
          then ZoneState.settling 8 else .disarmed) = st) : exec (.tableWriteZoneRecord t) s =
            .next (((written st).raiseLatches (latchIf (s.monitor.zone z).state.marked (.zoneFall z))).answered tag 2 10 .ok
              (encodeZoneRecord r)) :=
        hexec ((writeZoneRecord_done hz hread).trans (congrArg (done · _) (State.writeZone_eq hst)))
      refine ⟨fun ha hmarked => ?_, fun ha hmarked => ?_, fun ha hmarked => ?_, fun ha hmarked => ?_⟩
      · have he := hdone (.settling 8) (if_pos (hactive.mpr ha))
        rwa [hmarked] at he
      · have he := hdone (.settling 8) (if_pos (hactive.mpr ha))
        rwa [hmarked] at he
      · have he := hdone .disarmed (if_neg fun h => ha (hactive.mp h))
        rwa [hmarked] at he
      · have he := hdone .disarmed (if_neg fun h => ha (hactive.mp h))
        rwa [hmarked] at he

end Sys2Proof.Machine
end

section
/-!
PROOFS. The writes of the overlay targets (chapter 7, R133 to R135, R138, R139; chapter 10, R187, R189).
-/
namespace Sys2Proof.Machine

/-! ## The condition of an element (R138, R187) -/

theorem readCondition_eq_badIndex_iff (k a : Nat) :
    readCondition k a = .error .badIndex ↔ k = 1 ∧ 7 < a ∨ k = 2 ∧ 3 < a := by
  match k with
  | 0 | 3 | 4 => simp [readCondition]
  | 1 =>
    rcases Nat.lt_or_ge a 8 with h | h
    · obtain ⟨z, hz⟩ := exists_toFin? h
      simp [readCondition, hz]
      omega
    · simp [readCondition, toFin?_eq_none h]
      omega
  | 2 =>
    rcases Nat.lt_or_ge a 4 with h | h
    · obtain ⟨c, hc⟩ := exists_toFin? h
      simp [readCondition, hc]
      omega
    · simp [readCondition, toFin?_eq_none h]
      omega
  | 5 => cases h : toFin? 8 a <;> simp [readCondition, h]
  | n + 6 => simp [readCondition]

theorem readCondition_malformed {k a : Nat} (h : k = 5 ∧ 7 < a ∨ 5 < k) : readCondition k a = .error .malformed := by
  rcases h with ⟨rfl, ha⟩ | hk
  · simp [readCondition, toFin?_eq_none (n := 8) ha]
  · obtain ⟨n, rfl⟩ := Nat.exists_eq_add_of_le' hk
    rfl

/-- What a condition that is read can be, with its argument. -/
def ConditionRead (k a : Nat) (x : Condition) : Prop :=
  (k = 0 ∧ x = .always) ∨ (∃ z : ZoneNo, k = 1 ∧ a = z.val ∧ x = .zone z) ∨ (∃ c : Camera, k = 2 ∧ a = c.val ∧ x = .cameraFault c) ∨
    (k = 3 ∧ x = .indicatorNearside) ∨ (k = 4 ∧ x = .reverse) ∨ ∃ f : Fin 8, k = 5 ∧ a = f.val ∧ x = .body f

theorem conditionRead_of_ok {k a : Nat} {x : Condition} (h : readCondition k a = .ok x) : ConditionRead k a x := by
  unfold readCondition at h
  split at h
  · exact .inl ⟨rfl, (Except.ok.inj h).symm⟩
  · split at h
    · next z hz => exact .inr (.inl ⟨z, rfl, (toFin?_eq_some_iff z).mp hz, (Except.ok.inj h).symm⟩)
    · exact nomatch h
  · split at h
    · next c hc => exact .inr (.inr (.inl ⟨c, rfl, (toFin?_eq_some_iff c).mp hc, (Except.ok.inj h).symm⟩))
    · exact nomatch h
  · exact .inr (.inr (.inr (.inl ⟨rfl, (Except.ok.inj h).symm⟩)))
  · exact .inr (.inr (.inr (.inr (.inl ⟨rfl, (Except.ok.inj h).symm⟩))))
  · split at h
    · next f hf => exact .inr (.inr (.inr (.inr (.inr ⟨f, rfl, (toFin?_eq_some_iff f).mp hf, (Except.ok.inj h).symm⟩))))
    · exact nomatch h
  · exact nomatch h

theorem exists_readCondition {k a : Nat} (hindex : ¬ (k = 1 ∧ 7 < a ∨ k = 2 ∧ 3 < a)) (hform : ¬ (k = 5 ∧ 7 < a ∨ 5 < k)) :
    ∃ x, readCondition k a = .ok x := by
  match k with
  | 0 => exact ⟨.always, rfl⟩
  | 1 =>
    obtain ⟨z, hz⟩ := exists_toFin? (n := 8) (k := a) (by omega)
    exact ⟨.zone z, by simp [readCondition, hz]⟩
  | 2 =>
    obtain ⟨c, hc⟩ := exists_toFin? (n := 4) (k := a) (by omega)
    exact ⟨.cameraFault c, by simp [readCondition, hc]⟩
  | 3 => exact ⟨.indicatorNearside, rfl⟩
  | 4 => exact ⟨.reverse, rfl⟩
  | 5 =>
    obtain ⟨f, hf⟩ := exists_toFin? (n := 8) (k := a) (by omega)
    exact ⟨.body f, by simp [readCondition, hf]⟩
  | n + 6 => omega

/-! ## The reading of an element (R138) -/

theorem elementKind?_eq_getElem? (b : Nat) : elementKind? b = [ElementKind.none, .rect, .outline, .sprite, .path][b]? := by
  match b with
  | 0 | 1 | 2 | 3 | 4 => rfl
  | n + 5 => simp [elementKind?]

section
variable {p : List Byte}

theorem elementIndexesOk_iff : elementIndexesOk p = true ↔
    ¬ (15 < u8 p 13 ∨ 15 < u8 p 20 ∨ u8 p 1 = 1 ∧ 7 < u8 p 2 ∨ u8 p 1 = 2 ∧ 3 < u8 p 2) := by
  rw [elementIndexesOk, Bool.and_eq_true, Bool.and_eq_true, decide_eq_true_eq, decide_eq_true_eq, decide_eq_true_eq, Ne,
    readCondition_eq_badIndex_iff]
  omega

theorem readElement_badIndex (h : 15 < u8 p 13 ∨ 15 < u8 p 20 ∨ u8 p 1 = 1 ∧ 7 < u8 p 2 ∨ u8 p 1 = 2 ∧ 3 < u8 p 2) :
    readElement p = .error .badIndex := if_neg fun hok => elementIndexesOk_iff.mp hok h

section
variable (hindex : ¬ (15 < u8 p 13 ∨ 15 < u8 p 20 ∨ u8 p 1 = 1 ∧ 7 < u8 p 2 ∨ u8 p 1 = 2 ∧ 3 < u8 p 2))
include hindex

theorem readElement_malformed (h : 4 < u8 p 0 ∨ 5 < u8 p 1 ∨ u8 p 1 = 5 ∧ 7 < u8 p 2 ∨ 1 < u8 p 3) :
    readElement p = .error .malformed := by
  refine (if_pos (elementIndexesOk_iff.mpr hindex)).trans ?_
  split
  · next kind condition negate hkind hcondition hnegate =>
    rcases h with h | h | h | h
    · rw [elementKind?_eq_getElem?, List.getElem?_eq_none (Nat.succ_le_of_lt h)] at hkind
      exact nomatch hkind
    · exact nomatch hcondition.symm.trans (readCondition_malformed (.inr h))
    · exact nomatch hcondition.symm.trans (readCondition_malformed (.inl h))
    · exact nomatch hnegate.symm.trans (onOff?_eq_none h)
  · rfl

theorem exists_readElement (h : ¬ (4 < u8 p 0 ∨ 5 < u8 p 1 ∨ u8 p 1 = 5 ∧ 7 < u8 p 2 ∨ 1 < u8 p 3)) : ∃ e, readElement p = .ok e := by
  obtain ⟨condition, hcondition⟩ := exists_readCondition (k := u8 p 1) (a := u8 p 2) (by omega) (by omega)
  obtain ⟨negate, hnegate⟩ := exists_onOff? (b := u8 p 3) (by omega)
  have hlt : u8 p 0 < [ElementKind.none, .rect, .outline, .sprite, .path].length := by
    simp only [List.length_cons, List.length_nil]
    omega
  obtain ⟨kind, hkind⟩ : ∃ kind, elementKind? (u8 p 0) = some kind :=
    ⟨_, (elementKind?_eq_getElem? (u8 p 0)).trans (List.getElem?_eq_getElem hlt)⟩
  refine ⟨clampedElement p kind condition negate, ?_⟩
  rw [readElement, if_pos (elementIndexesOk_iff.mpr hindex), hkind, hcondition, hnegate]
  rfl

end

/-- The fields of an element read, each brought into its range (R139). -/
theorem readElement_fields {e : Element} (h : readElement p = .ok e) :
    [ElementKind.none, .rect, .outline, .sprite, .path][u8 p 0]? = some e.kind ∧ ConditionRead (u8 p 1) (u8 p 2) e.condition ∧
    (e.negate = true ↔ u8 p 3 = 1) ∧ e.x = max (-1024) (min 2047 (s16 p 4)) ∧ e.y = max (-1024) (min 2047 (s16 p 6)) ∧
    e.w = min 2047 (u16 p 8) ∧ e.h = min 2047 (u16 p 10) ∧ e.thickness = max 1 (min 16 (u8 p 12)) ∧ e.palette.val = u8 p 13 ∧
    e.spriteOffset = min 16383 (u16 p 14) ∧ e.spriteWidth = max 1 (min 256 (u16 p 16)) ∧
    e.spriteHeight = max 1 (min 256 (u16 p 18)) ∧ e.paletteBase.val = u8 p 20 ∧ e.viewMask.toNat = u8 p 21 ∧
    e.blinkValue.toNat = u8 p 22 ∧ e.blinkMask.toNat = u8 p 23 := by
  obtain ⟨hindex, kind, condition, negate, hkind, hcondition, hnegate, rfl⟩ := readElement_eq_ok h
  have hsmall := elementIndexesOk_iff.mp hindex
  exact ⟨(elementKind?_eq_getElem? _).symm.trans hkind, conditionRead_of_ok hcondition, onOff?_iff_one hnegate,
    clampInt_eq_max_min (by decide) _, clampInt_eq_max_min (by decide) _, clampNat_zero _ _, clampNat_zero _ _,
    clampNat_eq_max_min (by decide) _, Nat.mod_eq_of_lt (by omega), clampNat_zero _ _, clampNat_eq_max_min (by decide) _,
    clampNat_eq_max_min (by decide) _, Nat.mod_eq_of_lt (by omega), rfl, rfl, rfl⟩

theorem exists_readBand (h : u8 p 0 ≤ 7) : ∃ l, readBand p = .ok l := ⟨_, if_pos h⟩

theorem readBand_malformed (h : 7 < u8 p 0) : readBand p = .error .malformed := if_neg (Nat.not_le.mpr h)

/-- The spans of a band read (R135, R139). -/
theorem readBand_spans {l : List Span} (h : readBand p = .ok l) : l.length = u8 p 0 ∧ ∀ i, i < u8 p 0 →
    l[i]? = some ⟨max (-1024) (min 2047 (s16 p (1 + 8 * i))), min 1024 (u16 p (3 + 8 * i)),
      max (-1024) (min 2047 (s16 p (5 + 8 * i))), max (-1024) (min 2047 (s16 p (7 + 8 * i)))⟩ := by
  obtain ⟨-, rfl⟩ := readBand_eq_ok h
  refine ⟨by simp, fun i hi => ?_⟩
  rw [List.getElem?_map, List.getElem?_range hi, Option.map_some, spanAt, clampInt_eq_max_min (by decide),
    clampInt_eq_max_min (by decide), clampInt_eq_max_min (by decide), clampNat_zero]
  have h3 : 1 + 8 * i + 2 = 3 + 8 * i := by omega
  have h5 : 1 + 8 * i + 4 = 5 + 8 * i := by omega
  have h7 : 1 + 8 * i + 6 = 7 + 8 * i := by omega
  rw [h3, h5, h7]

end

/-! ## The store in a bank (R138) -/

section
variable {s : State} {which : BankId} {f : Bank → Bank} {payload : List Byte}

theorem Overlay.bankLocked_iff (o : Overlay) (which : BankId) : o.bankLocked which = true ↔ which = o.active ∨ o.swapPending = true := by
  rw [Overlay.bankLocked, Bool.or_eq_true, decide_eq_true_eq]

theorem storeInBank_locked (h : which = s.overlay.active ∨ s.overlay.swapPending = true) :
    storeInBank s which f payload = refuse s .locked := if_pos ((s.overlay.bankLocked_iff which).mpr h)

theorem storeInBank_done (h : ¬ (which = s.overlay.active ∨ s.overlay.swapPending = true)) :
    storeInBank s which f payload = done (s.setOverlay (s.overlay.setBank which (f (s.overlay.bank which)))) payload :=
  if_neg fun hl => h ((s.overlay.bankLocked_iff which).mp hl)

end

section
variable {m : Message} {s : State} {bank : BankId} (hbank : bankOf m = bank)

theorem writeElement_badIndex (h : 63 < m.index.toNat) : writeElement m s = refuse s .badIndex := by
  rw [writeElement, toFin?_eq_none h]

theorem writeElement_error {r : Result} (hindex : m.index.toNat ≤ 63) (hread : readElement m.payload = .error r) :
    writeElement m s = refuse s r := by
  obtain ⟨i, hi⟩ := exists_toFin? (n := 64) (Nat.lt_succ_of_le hindex)
  rw [writeElement, hi, hread]

theorem writePalette_badIndex (h : 15 < m.index.toNat) : writePalette m s = refuse s .badIndex := by
  rw [writePalette, toFin?_eq_none h]

theorem writeSprite_badIndex (h : 16383 < m.index.toNat ∨ 16384 < m.index.toNat + m.length.toNat) :
    writeSprite m s = refuse s .badIndex := by
  refine if_neg fun harea => ?_
  obtain ⟨hstart, hend⟩ := (chunkInArea_iff _ _).mp harea
  omega

theorem writeBand_badIndex (h : 30 < m.index.toNat) : writeBand m s = refuse s .badIndex := by
  rw [writeBand, toFin?_eq_none h]

theorem writeBand_error {r : Result} (hindex : m.index.toNat ≤ 30) (hread : readBand m.payload = .error r) :
    writeBand m s = refuse s r := by
  obtain ⟨i, hi⟩ := exists_toFin? (n := 31) (Nat.lt_succ_of_le hindex)
  rw [writeBand, hi, hread]

include hbank

theorem writeElement_store {e : Element} (hindex : m.index.toNat ≤ 63) (hread : readElement m.payload = .ok e) : writeElement m s =
    storeInBank s bank (fun x => { x with elements := Table.write Element.cleared x.elements m.index.toNat e }) (encodeElement e) := by
  obtain ⟨i, hi⟩ := exists_toFin? (n := 64) (Nat.lt_succ_of_le hindex)
  rw [writeElement, hi, hread, hbank, (toFin?_eq_some_iff i).mp hi]

theorem writePalette_store (hindex : m.index.toNat ≤ 15) : writePalette m s = storeInBank s bank
    (fun x => { x with palette := Table.write PaletteEntry.cleared x.palette m.index.toNat (readPalette m.payload) })
    (encodePalette (readPalette m.payload)) := by
  obtain ⟨i, hi⟩ := exists_toFin? (n := 16) (Nat.lt_succ_of_le hindex)
  rw [writePalette, hi, hbank, (toFin?_eq_some_iff i).mp hi]

theorem writeSprite_store (hstart : m.index.toNat ≤ 16383) (hend : m.index.toNat + m.length.toNat ≤ 16384) : writeSprite m s =
    storeInBank s bank (fun x => { x with sprites := Table.writeMany 0 x.sprites m.index.toNat (chunkBytes m) })
      (le16 m.index.toNat ++ [m.length]) := by
  subst hbank
  exact if_pos ((chunkInArea_iff _ _).mpr ⟨hstart, hend⟩)

theorem writeBand_store {l : List Span} (hindex : m.index.toNat ≤ 30) (hread : readBand m.payload = .ok l) : writeBand m s =
    storeInBank s bank (fun x => { x with bands := Table.write [] x.bands m.index.toNat l }) (encodeBand l) := by
  obtain ⟨i, hi⟩ := exists_toFin? (n := 31) (Nat.lt_succ_of_le hindex)
  rw [writeBand, hi, hread, hbank, (toFin?_eq_some_iff i).mp hi]

end

/-! ## The bytes of a chunk (R184) -/

section
variable {tag sub : Byte} {index : BitVec 16} {payload : List Byte}

theorem chunkBytes_request (hlen : payload.length ≤ 64) : chunkBytes (request 2 tag 6 sub index payload) = payload := by
  have hlength : (request 2 tag 6 sub index payload).length.toNat = payload.length := toNat_byteOf_of_lt (by omega)
  rw [chunkBytes, hlength]
  refine List.ext_getElem (by simp) fun i hi hi' => ?_
  rw [List.getElem_map, List.getElem_range]
  exact List.getD_eq_getElem _ _ hi'

theorem wholeMessageOk_spriteWrite (bank : BankId) (hlow : 1 ≤ payload.length) (hhigh : payload.length ≤ 64) :
    wholeMessageOk (request 2 tag 6 (if bank = .a then 0 else 1) index payload) = true := by
  have hlength : (byteOf payload.length).toNat = payload.length := toNat_byteOf_of_lt (by omega)
  have hsuits : lengthSuits (request 2 tag 6 (if bank = .a then 0 else 1) index payload) = true := by
    show (decide (1 ≤ (byteOf payload.length).toNat) && decide ((byteOf payload.length).toNat ≤ 64)) = true
    rw [hlength, decide_eq_true hlow, decide_eq_true hhigh]
    rfl
  refine wholeMessageOk_iff.mpr ⟨nofun, ?_, hsuits⟩
  cases bank <;> rfl

theorem wholeMessageOk_bankWrite {target : Byte} {n : Nat} (bank : BankId) (hlen : payload.length = n)
    (h : (target, n) ∈ [(4, 24), (5, 7), (7, 57)]) :
    wholeMessageOk (request 2 tag target (if bank = .a then 0 else 1) index payload) = true := by
  rw [request, hlen]
  simp only [List.mem_cons, Prod.mk.injEq, List.not_mem_nil, or_false] at h
  rcases h with ⟨rfl, rfl⟩ | ⟨rfl, rfl⟩ | ⟨rfl, rfl⟩ <;> cases bank <;> rfl

end

/-- Settles O35: target by target the index test, the form, then the bank. -/
theorem overlayWritesReachTheInactiveBank : Obligations.OverlayWritesReachTheInactiveBank := by
  intro s t rest tag index payload bank bankByte old write refused stored locked badIndex badForm place
  refine ⟨fun hlen h => ?element, fun hlen h => ?palette, fun hlow hhigh h => ?sprite, fun hlen h => ?band⟩
  case element =>
    have hexec {s' : State} {r : Result} {p : List Byte} (he : writeElement (write 4) (s.taken t rest) = ⟨s', some (r, p)⟩) :
        exec (.tableWriteOverlayElement t) s = .next (s'.answered tag 2 4 r p) :=
      exec_write (row := .tableWriteOverlayElement) h rfl (wholeMessageOk_bankWrite bank hlen (by simp)) he
    have hstore {e : Element} (hindex : index.toNat ≤ 63) (hread : readElement payload = .ok e) :
        writeElement (write 4) (s.taken t rest) = _ := writeElement_store (bankOf_request bank) hindex hread
    refine ⟨fun hindex => hexec (writeElement_badIndex hindex), fun r hindex hread => hexec (writeElement_error hindex hread),
      fun hindex hbad => hexec (writeElement_error hindex (readElement_badIndex hbad)),
      fun hindex hnot hbad => hexec (writeElement_error hindex (readElement_malformed hnot hbad)),
      exists_readElement, fun e hindex hread => ⟨readElement_fields hread, fun hl => ?_, fun hl =>
        ⟨{ old with elements := Table.write Element.cleared old.elements index.toNat e }, ?_, ?_, rfl, rfl, rfl⟩⟩⟩
    · exact hexec ((hstore hindex hread).trans (storeInBank_locked (s := s.taken t rest) hl))
    · exact hexec ((hstore hindex hread).trans (storeInBank_done (s := s.taken t rest) hl))
    · exact fun i => Table.read_write _ _ _ _ _
  case palette =>
    have hexec {s' : State} {r : Result} {p : List Byte} (he : writePalette (write 5) (s.taken t rest) = ⟨s', some (r, p)⟩) :
        exec (.tableWritePaletteEntry t) s = .next (s'.answered tag 2 5 r p) :=
      exec_write (row := .tableWritePaletteEntry) h rfl (wholeMessageOk_bankWrite bank hlen (by simp)) he
    have hstore (hindex : index.toNat ≤ 15) : writePalette (write 5) (s.taken t rest) = _ :=
      writePalette_store (bankOf_request bank) hindex
    obtain ⟨hy, hcb, hcr⟩ := colourAt_toNat payload 0
    refine ⟨⟨hy, hcb, hcr, clampNat_zero _ _⟩, fun hindex => hexec (writePalette_badIndex hindex), fun hindex =>
      ⟨fun hl => ?_, fun hl => ⟨{ old with palette := Table.write PaletteEntry.cleared old.palette index.toNat (readPalette payload) },
        ?_, ?_, rfl, rfl, rfl⟩⟩⟩
    · exact hexec ((hstore hindex).trans (storeInBank_locked (s := s.taken t rest) hl))
    · exact hexec ((hstore hindex).trans (storeInBank_done (s := s.taken t rest) hl))
    · exact fun i => Table.read_write _ _ _ _ _
  case sprite =>
    have hlength : (write 6).length.toNat = payload.length := toNat_byteOf_of_lt (by omega)
    have hexec {s' : State} {r : Result} {p : List Byte} (he : writeSprite (write 6) (s.taken t rest) = ⟨s', some (r, p)⟩) :
        exec (.tableWriteSpriteChunk t) s = .next (s'.answered tag 2 6 r p) :=
      exec_write (row := .tableWriteSpriteChunk) h rfl (wholeMessageOk_spriteWrite bank hlow hhigh) he
    have hstore (hstart : index.toNat ≤ 16383) (hend : index.toNat + payload.length ≤ 16384) :
        writeSprite (write 6) (s.taken t rest) = _ := writeSprite_store (bankOf_request bank) hstart (hlength ▸ hend)
    refine ⟨fun hbad => hexec (writeSprite_badIndex (hlength.symm ▸ hbad)), fun hstart hend =>
      ⟨fun hl => ?_, fun hl => ⟨{ old with sprites := Table.writeMany 0 old.sprites index.toNat (chunkBytes (write 6)) }, ?_,
        fun i => ?_, rfl, rfl, rfl⟩⟩⟩
    · exact hexec ((hstore hstart hend).trans (storeInBank_locked (s := s.taken t rest) hl))
    · exact hexec ((hstore hstart hend).trans (storeInBank_done (s := s.taken t rest) hl))
    · rw [Bank.spriteByte, chunkBytes_request hhigh]
      exact Table.read_writeMany _ _ _ _ _
  case band =>
    have hexec {s' : State} {r : Result} {p : List Byte} (he : writeBand (write 7) (s.taken t rest) = ⟨s', some (r, p)⟩) :
        exec (.tableWritePathBand t) s = .next (s'.answered tag 2 7 r p) :=
      exec_write (row := .tableWritePathBand) h rfl (wholeMessageOk_bankWrite bank hlen (by simp)) he
    have hstore {l : List Span} (hindex : index.toNat ≤ 30) (hread : readBand payload = .ok l) :
        writeBand (write 7) (s.taken t rest) = _ := writeBand_store (bankOf_request bank) hindex hread
    refine ⟨fun hindex => hexec (writeBand_badIndex hindex), fun hindex hbad => hexec (writeBand_error hindex (readBand_malformed hbad)),
      exists_readBand, fun l hindex hread => ⟨readBand_spans hread, fun hl => ?_, fun hl =>
        ⟨{ old with bands := Table.write [] old.bands index.toNat l }, ?_, ?_, rfl, rfl, rfl⟩⟩⟩
    · exact hexec ((hstore hindex hread).trans (storeInBank_locked (s := s.taken t rest) hl))
    · exact hexec ((hstore hindex hread).trans (storeInBank_done (s := s.taken t rest) hl))
    · exact fun i => Table.read_write _ _ _ _ _

end Sys2Proof.Machine
end

section
/-!
PROOFS. Mesh interpolation (chapter 5, R96, R97), the moves of a zone and the detection step (chapter 8, R155, R158 to R163).
-/
namespace Sys2Proof.Machine

/-! ## The bilinear mean of four corners (R96) -/

section
variable {c : Corners Nat} {i j lo hi : Nat}

theorem mesh_weights_sum (hi : i ≤ 32) (hj : j ≤ 32) :
    (32 - i) * (32 - j) + i * (32 - j) + (32 - i) * j + i * j = 1024 :=
  calc (32 - i) * (32 - j) + i * (32 - j) + (32 - i) * j + i * j
      = (32 - i + i) * (32 - j + j) := by ring
    _ = 1024 := by rw [Nat.sub_add_cancel hi, Nat.sub_add_cancel hj]

/-- The accumulator before rounding, each corner times its own weight. -/
def meshSum (c : Corners Nat) (i j : Nat) : Nat :=
  c.c00 * ((32 - i) * (32 - j)) + c.c10 * (i * (32 - j)) + c.c01 * ((32 - i) * j) + c.c11 * (i * j)

theorem meshSum_eq (c : Corners Nat) (i j : Nat) :
    c.c00 * (32 - i) * (32 - j) + c.c10 * i * (32 - j) + c.c01 * (32 - i) * j + c.c11 * i * j = meshSum c i j := by
  simp only [meshSum, Nat.mul_assoc]

theorem mesh_eq (c : Corners Nat) (i j : Nat) : mesh c i j = (meshSum c i j + 512) / 1024 := by
  rw [mesh, meshSum_eq]

theorem meshSum_le (hi' : i ≤ 32) (hj : j ≤ 32) (h00 : c.c00 ≤ hi) (h10 : c.c10 ≤ hi) (h01 : c.c01 ≤ hi) (h11 : c.c11 ≤ hi) :
    meshSum c i j ≤ hi * 1024 :=
  calc meshSum c i j
      ≤ hi * ((32 - i) * (32 - j)) + hi * (i * (32 - j)) + hi * ((32 - i) * j) + hi * (i * j) := by unfold meshSum; gcongr
    _ = hi * 1024 := by rw [← Nat.mul_add, ← Nat.mul_add, ← Nat.mul_add, mesh_weights_sum hi' hj]

theorem le_meshSum (hi' : i ≤ 32) (hj : j ≤ 32) (h00 : lo ≤ c.c00) (h10 : lo ≤ c.c10) (h01 : lo ≤ c.c01) (h11 : lo ≤ c.c11) :
    lo * 1024 ≤ meshSum c i j :=
  calc lo * 1024 = lo * ((32 - i) * (32 - j)) + lo * (i * (32 - j)) + lo * ((32 - i) * j) + lo * (i * j) := by
        rw [← Nat.mul_add, ← Nat.mul_add, ← Nat.mul_add, mesh_weights_sum hi' hj]
    _ ≤ meshSum c i j := by unfold meshSum; gcongr

theorem mesh_le (hi' : i ≤ 32) (hj : j ≤ 32) (h00 : c.c00 ≤ hi) (h10 : c.c10 ≤ hi) (h01 : c.c01 ≤ hi) (h11 : c.c11 ≤ hi) :
    mesh c i j ≤ hi := by
  have hsum := meshSum_le hi' hj h00 h10 h01 h11
  rw [mesh_eq]
  omega

theorem le_mesh (hi' : i ≤ 32) (hj : j ≤ 32) (h00 : lo ≤ c.c00) (h10 : lo ≤ c.c10) (h01 : lo ≤ c.c01) (h11 : lo ≤ c.c11) :
    lo ≤ mesh c i j := by
  have hsum := le_meshSum hi' hj h00 h10 h01 h11
  rw [mesh_eq]
  omega

theorem mesh_zero_zero (c : Corners Nat) : mesh c 0 0 = c.c00 := by
  rw [mesh]
  omega

end

/-- Settles O49: the weights sum to 1024, so the mean lies within any bounds of the corners. -/
theorem meshStaysWithinItsCorners : Obligations.MeshStaysWithinItsCorners := by
  intro c i j hi hj
  refine ⟨rfl, ?_, ?_, mesh_zero_zero c, fun h00 h10 h01 h11 => mesh_le hi.le hj.le h00 h10 h01 h11, fun h10 h01 h11 => ?_,
    fun h00 h10 h01 h11 => ?_⟩
  · exact le_mesh hi.le hj.le (by omega) (by omega) (by omega) (by omega)
  · exact mesh_le hi.le hj.le (by omega) (by omega) (by omega) (by omega)
  · exact le_antisymm (mesh_le hi.le hj.le le_rfl h10.ge h01.ge h11.ge) (le_mesh hi.le hj.le le_rfl h10.le h01.le h11.le)
  · have hsum := meshSum_le hi.le hj.le h00 h10 h01 h11
    rw [meshSum_eq]
    omega

/-! ## The moves of a zone (R161 to R163) -/

section
variable {s : State} {z : ZoneNo}

theorem exec_holdTimerExpiry (t : PartTime) (z : ZoneNo) (s : State) :
    exec (.holdTimerExpiry t z) s = .next ((s.atTime t).holdExpiry z) := rfl

theorem State.holdExpiry_due (h : (s.monitor.zone z).holdDue s.partTime = true) : s.holdExpiry z =
    (s.setMonitor (s.monitor.setZone z { s.monitor.zone z with state := .quiet })).latched (.zoneFall z) := if_pos h

theorem State.holdExpiry_not_due (h : ¬ (s.monitor.zone z).holdDue s.partTime = true) : s.holdExpiry z = s := if_neg h

theorem Zone.holdDue_iff (x : Zone) (now : PartTime) :
    x.holdDue now = true ↔ ∃ since, x.state = .holding since ∧ x.record.holdTime * 1000 ≤ elapsed now since := by
  unfold Zone.holdDue
  cases x.state <;> simp

end

section
variable {r : ZoneRecord} {changed : Nat} (now : PartTime)

theorem ZoneState.step_settling (n : Nat) : (ZoneState.settling (n + 2)).step r changed now = .settling (n + 1) := by
  rw [ZoneState.step, if_neg (by omega)]
  rfl

section
variable (hit : r.trigger ≤ changed)
include hit

theorem ZoneState.step_quiet_of_hit : ZoneState.quiet.step r changed now = if r.confirm ≤ 1 then .alert else .confirming 1 :=
  if_pos (decide_eq_true hit)

theorem ZoneState.step_confirming_of_hit (n : Nat) :
    (ZoneState.confirming n).step r changed now = if r.confirm ≤ n + 1 then .alert else .confirming (n + 1) :=
  if_pos (decide_eq_true hit)

theorem ZoneState.step_marked_of_hit {st : ZoneState} (h : st.marked = true) : st.step r changed now = .alert := by
  cases st with
  | alert => exact if_pos (decide_eq_true hit)
  | holding since => exact if_pos (decide_eq_true hit)
  | _ => exact Bool.noConfusion h

end

section
variable (miss : changed < r.trigger)
include miss

theorem ZoneState.step_quiet_of_miss : ZoneState.quiet.step r changed now = .quiet :=
  if_neg fun h => Nat.not_le.mpr miss (of_decide_eq_true h)

theorem ZoneState.step_confirming_of_miss (n : Nat) : (ZoneState.confirming n).step r changed now = .quiet :=
  if_neg fun h => Nat.not_le.mpr miss (of_decide_eq_true h)

theorem ZoneState.step_alert_of_miss : ZoneState.alert.step r changed now = if r.holdTime = 0 then .quiet else .holding now :=
  if_neg fun h => Nat.not_le.mpr miss (of_decide_eq_true h)

theorem ZoneState.step_holding_of_miss (since : PartTime) : (ZoneState.holding since).step r changed now = .holding since :=
  if_neg fun h => Nat.not_le.mpr miss (of_decide_eq_true h)

end

end

/-- Settles O44: the hold timer's test, then the step state by state. -/
theorem zonesMoveByTheirHits : Obligations.ZonesMoveByTheirHits := by
  refine ⟨fun s t since z => ⟨fun hstate hdue => ?_, fun hstate hearly => ?_, fun hstate => ?_⟩, fun st r changed now since n =>
    ⟨?_, ?_, ?_, fun hit => ⟨?_, fun h hlt => ?_, fun h heq => ?_, ?_⟩, fun miss => ⟨?_, ?_, ?_⟩⟩⟩
  · rw [exec_holdTimerExpiry]
    exact congrArg _ (State.holdExpiry_due (s := s.atTime t) ((Zone.holdDue_iff _ t).mpr ⟨since, hstate, hdue⟩))
  · rw [exec_holdTimerExpiry]
    refine congrArg _ (State.holdExpiry_not_due (s := s.atTime t) fun h => ?_)
    obtain ⟨t0, ht0, hle⟩ := (Zone.holdDue_iff _ t).mp h
    injection hstate.symm.trans ht0 with hsince
    subst hsince
    exact Nat.not_lt.mpr hle hearly
  · rw [exec_holdTimerExpiry]
    refine congrArg _ (State.holdExpiry_not_due (s := s.atTime t) fun h => ?_)
    obtain ⟨t0, ht0, -⟩ := (Zone.holdDue_iff _ t).mp h
    exact hstate t0 ht0
  · rintro rfl
    rfl
  · rintro rfl
    exact ZoneState.step_settling now n
  · rintro rfl
    rfl
  · rintro rfl
    exact ZoneState.step_quiet_of_hit now hit
  · rw [h, ZoneState.step_confirming_of_hit now hit, if_neg (Nat.not_le.mpr hlt)]
  · rw [h, ZoneState.step_confirming_of_hit now hit, if_pos heq.ge]
  · rintro (rfl | rfl) <;> exact ZoneState.step_marked_of_hit now hit rfl
  · rintro (rfl | rfl)
    · exact ZoneState.step_quiet_of_miss now miss
    · exact ZoneState.step_confirming_of_miss now miss n
  · rintro rfl
    exact ZoneState.step_alert_of_miss now miss
  · rintro rfl
    exact ZoneState.step_holding_of_miss now miss since

/-! ## The detection step (R155, R158 to R160) -/

theorem ZoneState.watches_iff (st : ZoneState) :
    st.watches = true ↔ ∃ h, st = .confirming h ∨ st = .quiet ∨ st.marked = true := by
  cases st <;> simp [ZoneState.watches, ZoneState.marked]

section
variable {m : ZoneMonitor} {x : TileResults} {tile : Nat}

theorem ZoneRecord.covers_iff (r : ZoneRecord) (x : TileResults) (tile : Nat) : r.covers x tile = true ↔
    tile < x.columns * x.rows ∧ (r.tx0 ≤ tile % x.columns ∧ tile % x.columns ≤ r.tx1) ∧
      (r.ty0 ≤ tile / x.columns ∧ tile / x.columns ≤ r.ty1) := by
  simp only [ZoneRecord.covers, Bool.and_eq_true, decide_eq_true_eq, and_assoc]
  rfl

theorem mem_changed_iff (z : Zone) : tile ∈ (List.range x.count).filter (changedFor m x z) ↔
    (∃ h, z.state = .confirming h ∨ z.state = .quiet ∨ z.state.marked = true) ∧
    tile < x.columns * x.rows ∧ (z.record.tx0 ≤ tile % x.columns ∧ tile % x.columns ≤ z.record.tx1) ∧
    (z.record.ty0 ≤ tile / x.columns ∧ tile / x.columns ≤ z.record.ty1) ∧ (x.mean tile).excluded = false ∧
    (m.background tile).resume = false ∧
    z.record.threshold * 64 < (((x.mean tile).mean * 64 : Int) - (m.background tile).level.toNat).natAbs := by
  have hrange (h : z.record.covers x tile = true) : tile < x.count := (z.record.covers_iff x tile).mp h |>.1
  simp only [List.mem_filter, List.mem_range, changedFor, differs, Bool.and_eq_true, Bool.not_eq_true', decide_eq_true_eq,
    ZoneState.watches_iff, ZoneRecord.covers_iff]
  constructor
  · rintro ⟨-, ⟨⟨⟨hwatch, hcount, hcolumn, hrow⟩, hexcluded⟩, hresume⟩, hdiffer⟩
    exact ⟨hwatch, hcount, hcolumn, hrow, hexcluded, hresume, hdiffer⟩
  · rintro ⟨hwatch, hcount, hcolumn, hrow, hexcluded, hresume, hdiffer⟩
    exact ⟨hcount, ⟨⟨⟨hwatch, hcount, hcolumn, hrow⟩, hexcluded⟩, hresume⟩, hdiffer⟩

theorem ZoneMonitor.background_detect (m : ZoneMonitor) (x : TileResults) (now : PartTime) (htile : tile < 1024) :
    (m.detect x now).background tile = if tile < x.columns * x.rows then newBackground m x tile else m.background tile := by
  rw [ZoneMonitor.background, ZoneMonitor.detect, Table.read_tabulate, if_pos htile]
  rfl

theorem freshlyArmed_iff : freshlyArmed m x tile = true ↔ ∃ z, (m.zone z).state = .settling 8 ∧ (m.zone z).record.covers x tile = true := by
  simp only [freshlyArmed, List.any_eq_true, mem_allZones, true_and, Bool.and_eq_true, decide_eq_true_eq]

/-- The learn shift is the least of the enabled zones that cover the tile, 4 where there is none (R160). -/
theorem learnShift_cases (m : ZoneMonitor) (x : TileResults) (tile : Nat) :
    (∃ z, (m.zone z).record.enable = true ∧ (m.zone z).record.covers x tile = true ∧ (m.zone z).record.learnShift = learnShift m x tile ∧
      ∀ y, (m.zone y).record.enable = true → (m.zone y).record.covers x tile = true →
        learnShift m x tile ≤ (m.zone y).record.learnShift) ∨
    learnShift m x tile = 4 ∧ ∀ z, (m.zone z).record.enable = true → (m.zone z).record.covers x tile = false := by
  have hmem (z : ZoneNo) : z ∈ allZones.filter (fun z => (m.zone z).record.enable && (m.zone z).record.covers x tile) ↔
      (m.zone z).record.enable = true ∧ (m.zone z).record.covers x tile = true := by
    simp only [List.mem_filter, mem_allZones, true_and, Bool.and_eq_true]
  unfold learnShift
  generalize allZones.filter (fun z => (m.zone z).record.enable && (m.zone z).record.covers x tile) = l at hmem
  cases l with
  | nil =>
    refine .inr ⟨rfl, fun z henable => Bool.eq_false_iff.mpr fun hcovers => ?_⟩
    exact nomatch (hmem z).mpr ⟨henable, hcovers⟩
  | cons first rest =>
    refine .inl ?_
    simp only [List.map_cons]
    obtain ⟨hin, hleast⟩ := List.min?_eq_some_iff.mp (List.min?_cons' (xs := rest.map fun z => (m.zone z).record.learnShift)
      (x := (m.zone first).record.learnShift))
    rw [← List.map_cons (f := fun z => (m.zone z).record.learnShift)] at hin hleast
    obtain ⟨z, hz, hshift⟩ := List.mem_map.mp hin
    obtain ⟨henable, hcovers⟩ := (hmem z).mp hz
    exact ⟨z, henable, hcovers, hshift, fun y hy hcovered => hleast _ (List.mem_map_of_mem ((hmem y).mpr ⟨hy, hcovered⟩))⟩

/-- A background moves toward the mean without passing it (R160). -/
theorem learn_spec (b : BitVec 16) {mean : Nat} (k : Nat) (hmean : mean ≤ 1023) :
    ((learn b mean k).toNat : Int) = b.toNat + ((mean * 64 : Int) - b.toNat) / 2 ^ k ∧
    min (mean * 64) b.toNat ≤ (learn b mean k).toNat ∧ (learn b mean k).toNat ≤ max (mean * 64) b.toNat := by
  have hb := b.isLt
  have hpow : (0 : Int) < 2 ^ k := by positivity
  have hone : (1 : Int) ≤ 2 ^ k := hpow
  have hlevel : (learn b mean k).toNat = ((b.toNat : Int) + ((mean * 64 : Int) - b.toNat) / 2 ^ k).toNat % 65536 :=
    BitVec.toNat_ofNat _ 16
  generalize hd : (mean * 64 : Int) - b.toNat = d at hlevel ⊢
  have hbetween : min d 0 ≤ d / 2 ^ k ∧ d / 2 ^ k ≤ max d 0 := by
    rcases le_total 0 d with h | h
    · have hlow : 0 ≤ d / 2 ^ k := Int.ediv_nonneg h hpow.le
      have hhigh : d / 2 ^ k ≤ d := Int.ediv_le_self _ h
      omega
    · have hlow : d ≤ d / 2 ^ k := (Int.le_ediv_iff_mul_le hpow).mpr (by nlinarith)
      have hhigh : d / 2 ^ k ≤ 0 := Int.ediv_le_of_le_mul hpow (by omega)
      omega
  obtain ⟨hlow, hhigh⟩ := hbetween
  generalize d / 2 ^ k = q at *
  omega

end

/-- Settles O45: each zone's own test and step, and each tile's branch of the learning. -/
theorem detectionTestsThenLearns : Obligations.DetectionTestsThenLearns := by
  intro m x now
  refine ⟨fun z => ⟨changedCount m x (m.zone z), m.zone_detect x now z, _, List.nodup_range.filter _, rfl, fun tile => mem_changed_iff _⟩,
    fun tile htile => ⟨fun hbeyond => ?_, fun hin hmean => ⟨fun hexcluded => ?_, fun hincluded => ?_⟩⟩⟩
  · rw [m.background_detect x now htile, if_neg (Nat.not_lt.mpr hbeyond)]
  · rw [m.background_detect x now htile, if_pos hin]
    exact if_pos hexcluded
  · have hback : (m.detect x now).background tile = newBackground m x tile := by
      rw [m.background_detect x now htile, if_pos hin]
    have hnew : newBackground m x tile = if (m.background tile).resume || freshlyArmed m x tile then
        ⟨BitVec.ofNat 16 ((x.mean tile).mean * 64), false⟩
        else ⟨learn (m.background tile).level (x.mean tile).mean (learnShift m x tile), false⟩ :=
      if_neg fun h => Bool.noConfusion (hincluded.symm.trans h)
    rw [hback, hnew]
    refine ⟨?_, fun hload => ?_, fun hresume hnone => ?_⟩
    · split_ifs <;> rfl
    · have hload' : ((m.background tile).resume || freshlyArmed m x tile) = true :=
        Bool.or_eq_true_iff.mpr (hload.imp_right freshlyArmed_iff.mpr)
      rw [if_pos hload']
      exact Nat.mod_eq_of_lt (by omega)
    · have hlearn : ¬ ((m.background tile).resume || freshlyArmed m x tile) = true := fun h => by
        rcases Bool.or_eq_true_iff.mp h with h | h
        · exact Bool.noConfusion (hresume.symm.trans h)
        · obtain ⟨z, hz, hcovers⟩ := freshlyArmed_iff.mp h
          exact Bool.noConfusion ((hnone z hz).symm.trans hcovers)
      rw [if_neg hlearn]
      obtain ⟨hvalue, hbounds⟩ := learn_spec (m.background tile).level (learnShift m x tile) hmean
      refine ⟨learnShift m x tile, hvalue, ?_, hbounds⟩
      exact learnShift_cases m x tile

end Sys2Proof.Machine
end

section
/-!
PROOFS. The draw list and the overlaid pixel (chapter 7, R134, R135, R137, R145 to R149).
-/
namespace Sys2Proof.Machine

/-! ## The draw list (R145 to R147) -/

section
variable {x : DrawInputs} {bank : Bank}

theorem maskHas_iff (mask : Byte) (view : Option ViewNo) : maskHas mask view = true ↔ ∃ v, view = some v ∧ member mask v.val = true := by
  cases view <;> simp [maskHas]

theorem Element.shown_iff (x : DrawInputs) (e : Element) : e.shown x = true ↔ e.kind ≠ .none ∧
    (∃ v, x.view = some v ∧ member e.viewMask v.val = true) ∧
    ((e.negate = false ∧ e.condition.holds x = true) ∨ (e.negate = true ∧ e.condition.holds x = false)) ∧
    x.frameCounter.setWidth 8 &&& e.blinkMask = e.blinkValue := by
  have hcondition : (e.condition.holds x != e.negate) = true ↔
      (e.negate = false ∧ e.condition.holds x = true) ∨ (e.negate = true ∧ e.condition.holds x = false) := by
    cases e.condition.holds x <;> cases e.negate <;> decide
  rw [Element.shown, Bool.and_eq_true, Bool.and_eq_true, Bool.and_eq_true, hcondition, maskHas_iff, Element.blinks, decide_eq_true_eq,
    decide_eq_true_eq, and_assoc, and_assoc]

/-- The band of a draw item: that of the reading for a PATH element, 0 for the others (R147). -/
def BandFor (x : DrawInputs) (kind : ElementKind) (band : Nat) : Prop :=
  (kind ≠ .path ∧ band = 0) ∨ ∃ steer, kind = .path ∧ x.signals.steer = some steer ∧ band = bandOf steer

theorem drawItem?_eq_some_iff (i : Nat) (d : DrawItem) : drawItem? x bank i = some d ↔
    d.element = i ∧ (bank.element i).shown x = true ∧ BandFor x (bank.element i).kind d.band := by
  obtain ⟨n, band⟩ := d
  unfold drawItem? BandFor
  dsimp only
  split_ifs with hshown
  · cases (bank.element i).kind <;> cases x.signals.steer <;> simp [hshown, eq_comm (a := i), eq_comm (a := (0 : Nat)), eq_comm (b := band)]
  · simp [hshown]

theorem mem_drawListOf_iff (d : DrawItem) : d ∈ drawListOf x bank ↔
    d.element < 64 ∧ (bank.element d.element).shown x = true ∧ BandFor x (bank.element d.element).kind d.band := by
  rw [drawListOf, List.mem_filterMap]
  constructor
  · rintro ⟨i, hi, hd⟩
    obtain ⟨rfl, hshown, hband⟩ := (drawItem?_eq_some_iff i d).mp hd
    exact ⟨List.mem_range.mp hi, hshown, hband⟩
  · rintro ⟨hlt, hshown, hband⟩
    exact ⟨d.element, List.mem_range.mpr hlt, (drawItem?_eq_some_iff _ d).mpr ⟨rfl, hshown, hband⟩⟩

/-- The draw list is in list order (R145). -/
theorem drawListOf_sorted : ((drawListOf x bank).map DrawItem.element).Pairwise (· < ·) := by
  rw [List.pairwise_map, drawListOf, List.pairwise_filterMap]
  refine List.pairwise_lt_range.imp fun hlt d hd d' hd' => ?_
  obtain ⟨rfl, -⟩ := (drawItem?_eq_some_iff _ d).mp hd
  obtain ⟨rfl, -⟩ := (drawItem?_eq_some_iff _ d').mp hd'
  exact hlt

theorem Condition.holds_body (f : Fin 8) : Condition.holds x (.body f) = true ↔ ∃ b, x.signals.body = some b ∧ member b f.val = true := by
  rw [Condition.holds]
  cases x.signals.body <;> simp

end

/-- Settles O53: membership by the tests of R145, and the order of the list. -/
theorem drawListHoldsTheVisible : Obligations.DrawListHoldsTheVisible := by
  intro x bank
  refine ⟨drawListOf_sorted, fun n band => ?_, rfl, fun z => rfl, fun c => rfl, decide_eq_true_iff, decide_eq_true_iff,
    Condition.holds_body⟩
  rw [mem_drawListOf_iff, Element.shown_iff]
  simp only [and_assoc]
  rfl

/-! ## Drawing over a pixel (R148, R149) -/

theorem mixComponent_le {e p alpha hi : Nat} (halpha : alpha ≤ 16) (he : e ≤ hi) (hp : p ≤ hi) : mixComponent e p alpha ≤ hi := by
  have hsum : e * alpha + p * (16 - alpha) ≤ hi * 16 :=
    calc e * alpha + p * (16 - alpha) ≤ hi * alpha + hi * (16 - alpha) := by gcongr
      _ = hi * 16 := by rw [← Nat.mul_add, Nat.add_sub_cancel' halpha]
  rw [mixComponent]
  omega

theorem le_mixComponent {e p alpha lo : Nat} (halpha : alpha ≤ 16) (he : lo ≤ e) (hp : lo ≤ p) : lo ≤ mixComponent e p alpha := by
  have hsum : lo * 16 ≤ e * alpha + p * (16 - alpha) :=
    calc lo * 16 = lo * alpha + lo * (16 - alpha) := by rw [← Nat.mul_add, Nat.add_sub_cancel' halpha]
      _ ≤ e * alpha + p * (16 - alpha) := by gcongr
  rw [mixComponent]
  omega

theorem mixComponent_sixteen (e p : Nat) : mixComponent e p 16 = e := by
  rw [mixComponent]
  omega

theorem mixComponent_zero (e p : Nat) : mixComponent e p 0 = p := by
  rw [mixComponent]
  omega

/-- A sample whose components are 10-bit levels. -/
def Sample.IsLevels (p : Sample) : Prop := p.y ≤ 1023 ∧ p.cb ≤ 1023 ∧ p.cr ≤ 1023

section
variable {bank : Bank} {px py : Nat}

theorem mix_isLevels {entry : PaletteEntry} {p : Sample} (halpha : entry.alpha ≤ 16) (hp : p.IsLevels) : (mix entry p).IsLevels := by
  have hle (w : BitVec 10) : w.toNat ≤ 1023 := Nat.le_of_lt_succ w.isLt
  obtain ⟨hy, hcb, hcr⟩ := hp
  exact ⟨mixComponent_le halpha (hle _) hy, mixComponent_le halpha (hle _) hcb, mixComponent_le halpha (hle _) hcr⟩

theorem applyItem_of_covers {d : DrawItem} {i : Nat} (h : coverage bank d px py = some i) (p : Sample) :
    applyItem bank px py p d = mix (bank.paletteEntry i) p := by
  rw [applyItem, h]

theorem applyItem_of_not_covers {d : DrawItem} (h : coverage bank d px py = none) (p : Sample) : applyItem bank px py p d = p := by
  rw [applyItem, h]

theorem applyItem_isLevels (halpha : ∀ i, (bank.paletteEntry i).alpha ≤ 16) {p : Sample} (hp : p.IsLevels) (d : DrawItem) :
    (applyItem bank px py p d).IsLevels := by
  cases h : coverage bank d px py with
  | none => rwa [applyItem_of_not_covers h]
  | some i =>
    rw [applyItem_of_covers h]
    exact mix_isLevels (halpha i) hp

theorem foldl_applyItem_isLevels (halpha : ∀ i, (bank.paletteEntry i).alpha ≤ 16) (l : List DrawItem) {p : Sample} (hp : p.IsLevels) :
    (l.foldl (applyItem bank px py) p).IsLevels := by
  induction l generalizing p with
  | nil => exact hp
  | cons d l ih => exact ih (applyItem_isLevels halpha hp d)

theorem foldl_applyItem_of_not_covers {l : List DrawItem} (h : ∀ d ∈ l, coverage bank d px py = none) (p : Sample) :
    l.foldl (applyItem bank px py) p = p := by
  induction l generalizing p with
  | nil => rfl
  | cons d l ih =>
    rw [List.foldl_cons, applyItem_of_not_covers (h d (List.mem_cons_self ..))]
    exact ih (fun d' hd' => h d' (List.mem_cons_of_mem _ hd')) p

end

/-! ## Coverage and extent, kind by kind (R134, R135, R137) -/

section
variable {bank : Bank} {d : DrawItem} {px py : Int} {e : Element} (he : bank.element d.element = e)

theorem Element.inRows_iff (e : Element) (py : Int) : e.inRows py = true ↔ e.y ≤ py ∧ py < e.y + e.h := by
  rw [Element.inRows, Bool.and_eq_true, decide_eq_true_eq, decide_eq_true_eq]

theorem Element.inRect_iff (e : Element) (px py : Int) :
    e.inRect px py = true ↔ e.x ≤ px ∧ px < e.x + e.w ∧ e.y ≤ py ∧ py < e.y + e.h := by
  rw [Element.inRect, Bool.and_eq_true, Bool.and_eq_true, decide_eq_true_eq, decide_eq_true_eq, Element.inRows_iff, and_assoc]

theorem Element.nearEdge_iff (e : Element) (px py : Int) : e.nearEdge px py = true ↔ px - e.x < e.thickness ∨
    e.x + e.w - 1 - px < e.thickness ∨ py - e.y < e.thickness ∨ e.y + e.h - 1 - py < e.thickness := by
  rw [Element.nearEdge, Bool.or_eq_true, Bool.or_eq_true, Bool.or_eq_true, decide_eq_true_eq, decide_eq_true_eq, decide_eq_true_eq,
    decide_eq_true_eq, or_assoc, or_assoc]

theorem Span.inRows_iff (s : Span) (e : Element) (py : Int) :
    s.inRows e py = true ↔ e.y + s.startRow ≤ py ∧ py < e.y + s.startRow + s.rowCount := by
  rw [Span.inRows, Bool.and_eq_true, decide_eq_true_eq, decide_eq_true_eq]

theorem Span.covers_iff (s : Span) (e : Element) (px py : Int) : s.covers e px py = true ↔
    e.y + s.startRow ≤ py ∧ py < e.y + s.startRow + s.rowCount ∧ e.x + s.leftX ≤ px ∧ px ≤ e.x + s.rightX := by
  rw [Span.covers, Bool.and_eq_true, Bool.and_eq_true, decide_eq_true_eq, decide_eq_true_eq, Span.inRows_iff, and_assoc, and_assoc]

theorem ite_some_none_iff {α : Type} {c : Bool} {a : α} : (if c = true then some a else none) = some a ↔ c = true := by
  cases c <;> simp

/-- A sprite covers a pixel of its rectangle whose value is not 0, with the entry the value names (R134, R137). -/
theorem spriteCoverage_iff (base v : Nat) (inside : Prop) [Decidable inside] (n i : Nat) (value : Nat)
    (hvalue : value = if inside then (if n < 65536 then v else 0) else 0) :
    (if value = 0 then none else some ((base + value - 1) % 16)) = some i ↔ inside ∧ n < 65536 ∧ v ≠ 0 ∧ i = (base + v - 1) % 16 := by
  subst hvalue
  by_cases hin : inside
  · by_cases hn : n < 65536
    · by_cases hv : v = 0
      · simp [hv]
      · simp [hin, hn, hv, eq_comm]
    · simp [hn]
  · simp [hin]

include he

theorem coverage_rect (hkind : e.kind = .rect) : coverage bank d px py = some e.palette.val ↔ e.inRect px py = true := by
  subst he
  rw [coverage, hkind]
  exact ite_some_none_iff

theorem coverage_outline (hkind : e.kind = .outline) :
    coverage bank d px py = some e.palette.val ↔ e.inRect px py = true ∧ e.nearEdge px py = true := by
  subst he
  rw [coverage, hkind, ← Bool.and_eq_true]
  exact ite_some_none_iff

theorem coverage_sprite (hkind : e.kind = .sprite) : coverage bank d px py =
    if spriteValue bank e px py = 0 then none else some ((e.paletteBase.val + spriteValue bank e px py - 1) % 16) := by
  subst he
  rw [coverage, hkind]

theorem coverage_path (hkind : e.kind = .path) :
    coverage bank d px py = some e.palette.val ↔ ∃ s ∈ bank.band d.band, s.covers e px py = true := by
  subst he
  rw [coverage, hkind, ← List.any_eq_true]
  exact ite_some_none_iff

theorem coverage_none (hkind : e.kind = .none) : coverage bank d px py = none ∧ inExtent bank d py = false := by
  subst he
  rw [coverage, inExtent, hkind]
  exact ⟨rfl, rfl⟩

theorem inExtent_rows (hkind : e.kind = .rect ∨ e.kind = .outline) : inExtent bank d py = e.inRows py := by
  subst he
  rcases hkind with hkind | hkind <;> rw [inExtent, hkind]

theorem inExtent_sprite (hkind : e.kind = .sprite) : inExtent bank d py = true ↔ e.y ≤ py ∧ py < e.y + e.spriteHeight := by
  subst he
  rw [inExtent, hkind]
  exact Bool.and_eq_true_iff.trans (and_congr decide_eq_true_iff decide_eq_true_iff)

theorem inExtent_path (hkind : e.kind = .path) : inExtent bank d py = true ↔ ∃ s ∈ bank.band d.band, s.inRows e py = true := by
  subst he
  rw [inExtent, hkind]
  exact List.any_eq_true

end

/-- Settles O52: the elements applied, the mixing, the coverage kind by kind, and the band. -/
theorem overlayDrawsInListOrder : Obligations.OverlayDrawsInListOrder := by
  refine ⟨fun bank list px py p => ⟨⟨(onLine bank list py).drop 16, (List.take_append_drop 16 _).symm, List.length_take_le 16 _, fun hleft => ?_⟩,
    fun h => foldl_applyItem_of_not_covers h p, fun l d hl => ?_, fun hy hcb hcr halpha => ?_⟩,
    fun e p alpha halpha => ⟨rfl, mixComponent_sixteen e p, mixComponent_zero e p, ?_, ?_⟩, fun bank d px py => ?_,
    fun steer hlow hhigh => ?_⟩
  · have hlong : 16 < (onLine bank list py).length := by
      by_contra hshort
      exact hleft (List.drop_eq_nil_of_le (Nat.not_lt.mp hshort))
    exact (List.length_take ..).trans (min_eq_left hlong.le)
  · have hfold : overlayPixel bank list px py p = applyItem bank px py (l.foldl (applyItem bank px py) p) d := by
      rw [overlayPixel, hl, List.foldl_append]
      rfl
    rw [hfold]
    exact ⟨fun i hi => applyItem_of_covers hi _, fun hnone => applyItem_of_not_covers hnone _⟩
  · exact foldl_applyItem_isLevels halpha _ ⟨hy, hcb, hcr⟩
  · exact le_mixComponent halpha (min_le_left ..) (min_le_right ..)
  · exact mixComponent_le halpha (le_max_left ..) (le_max_right ..)
  · intro e inside sprite n v
    refine ⟨fun hkind => (coverage_rect rfl hkind).trans (e.inRect_iff px py),
      fun hkind => (coverage_outline rfl hkind).trans (and_congr (e.inRect_iff px py) (e.nearEdge_iff px py)),
      fun hkind => (coverage_path rfl hkind).trans ?_, fun hkind i => ?_, fun hkind => coverage_none rfl hkind,
      fun hkind => ?_, fun hkind => inExtent_sprite rfl hkind, fun hkind => (inExtent_path rfl hkind).trans ?_⟩
    · simp only [Span.covers_iff]
      rfl
    · rw [coverage_sprite rfl hkind]
      exact spriteCoverage_iff _ v sprite n i _ rfl
    · rw [inExtent_rows rfl hkind]
      exact e.inRows_iff py
    · simp only [Span.inRows_iff]
      rfl
  · rw [bandOf]
    omega

end Sys2Proof.Machine
end

section
/-!
PROOFS. Reading reverses laying out: the control message of R183 and every table record of R186, R187 and R189 that is within its ranges.
-/
namespace Sys2Proof.Machine

/-! ## The control message (R183) -/

theorem extractLsb'_append_bytes (x : BitVec 16) : (x.extractLsb' 8 8 : Byte) ++ (x.extractLsb' 0 8 : Byte) = x := by
  apply BitVec.eq_of_toNat_eq
  rw [← u16_pair]
  have hx := x.isLt
  have hlow : u8 [x.extractLsb' 0 8, x.extractLsb' 8 8] 0 = x.toNat % 256 := by
    show (x.extractLsb' 0 8).toNat = _
    rw [BitVec.extractLsb'_toNat, Nat.shiftRight_zero]
  have hhigh : u8 [x.extractLsb' 0 8, x.extractLsb' 8 8] (0 + 1) = x.toNat / 256 := by
    show (x.extractLsb' 8 8).toNat = _
    rw [BitVec.extractLsb'_toNat, Nat.shiftRight_eq_div_pow, Nat.mod_eq_of_lt (by omega)]
  rw [u16, hlow, hhigh]
  omega

theorem extractLsb'_low_of_append (hi lo : Byte) : (hi ++ lo).extractLsb' 0 8 = lo := by
  apply BitVec.eq_of_toNat_eq
  rw [BitVec.extractLsb'_toNat, Nat.shiftRight_zero, ← u16_pair]
  have hlo := lo.isLt
  show (lo.toNat + 256 * hi.toNat) % 2 ^ 8 = lo.toNat
  omega

theorem extractLsb'_high_of_append (hi lo : Byte) : (hi ++ lo).extractLsb' 8 8 = hi := by
  apply BitVec.eq_of_toNat_eq
  rw [BitVec.extractLsb'_toNat, Nat.shiftRight_eq_div_pow, ← u16_pair]
  have hlo := lo.isLt
  have hhi := hi.isLt
  show (lo.toNat + 256 * hi.toNat) / 2 ^ 8 % 2 ^ 8 = hi.toNat
  omega

theorem decodeMessage_encodeMessage {m : Message} (h : m.lengthAgrees = true) : decodeMessage (encodeMessage m) = some m := by
  rw [Message.lengthAgrees, beq_iff_eq] at h
  show (if m.payload.length = m.length.toNat then some (Message.mk m.cls m.kind m.tag m.length m.target m.sub
    (m.index.extractLsb' 8 8 ++ m.index.extractLsb' 0 8) m.payload) else none) = some m
  rw [if_pos h, extractLsb'_append_bytes]

theorem encodeMessage_decodeMessage {bytes : List Byte} {m : Message} (h : decodeMessage bytes = some m) : encodeMessage m = bytes := by
  unfold decodeMessage at h
  split at h
  · next cls kind tag length target sub lo hi payload =>
    split_ifs at h
    obtain rfl := Option.some.inj h
    simp only [encodeMessage, extractLsb'_low_of_append, extractLsb'_high_of_append, List.cons_append, List.nil_append]
  · cases h

/-! ## Bytes within a longer list -/

theorem byteAt_append_left {front : List Byte} (back : List Byte) {i : Nat} (h : i < front.length) :
    byteAt (front ++ back) i = byteAt front i := List.getD_append _ _ _ _ h

theorem u8_drop (p : List Byte) (k i : Nat) : u8 (p.drop k) i = u8 p (k + i) := by
  rw [u8, u8, byteAt, byteAt, List.getD_eq_getElem?_getD, List.getD_eq_getElem?_getD, List.getElem?_drop]

theorem u16_drop (p : List Byte) (k i : Nat) : u16 (p.drop k) i = u16 p (k + i) := by
  rw [u16, u16, u8_drop, u8_drop, Nat.add_assoc]

theorem s16_drop (p : List Byte) (k i : Nat) : s16 (p.drop k) i = s16 p (k + i) := by
  rw [s16, s16, u16_drop]

theorem padTo_length {n : Nat} {l : List Byte} (h : l.length ≤ n) : (padTo n l).length = n := by
  rw [padTo, List.length_append, List.length_replicate, Nat.add_sub_cancel' h]

/-! ## A field read back from its bytes -/

/-- The two bytes of a signed 16-bit field give the number back. -/
theorem s16_of_bytes {p : List Byte} {i : Nat} {x : Int} (hlow : byteAt p i = byteOf (x % 65536).toNat)
    (hhigh : byteAt p (i + 1) = byteOf ((x % 65536).toNat / 256)) (h : -32768 ≤ x ∧ x ≤ 32767) : s16 p i = x := by
  rw [s16, u16_of_bytes hlow hhigh (by omega)]
  split_ifs <;> omega

theorem clampNat_of_mem {lo hi n : Nat} (h : lo ≤ n ∧ n ≤ hi) : clampNat lo hi n = n := by
  rw [clampNat, if_neg (Nat.not_lt.mpr h.1), if_neg (Nat.not_lt.mpr h.2)]

theorem clampInt_of_mem {lo hi x : Int} (h : lo ≤ x ∧ x ≤ hi) : clampInt lo hi x = x := by
  rw [clampInt, if_neg (Int.not_lt.mpr h.1), if_neg (Int.not_lt.mpr h.2)]

section
variable {p : List Byte} {i lo hi n : Nat}

theorem clampNat_u8 (h : lo ≤ n ∧ n ≤ hi) (hbyte : byteAt p i = byteOf n) (hn : n < 256 := by omega) :
    clampNat lo hi (u8 p i) = n := by
  rw [u8_of_byte hbyte hn, clampNat_of_mem h]

theorem clampNat_u16 (h : lo ≤ n ∧ n ≤ hi) (hlow : byteAt p i = byteOf n) (hhigh : byteAt p (i + 1) = byteOf (n / 256))
    (hn : n < 65536 := by omega) : clampNat lo hi (u16 p i) = n := by
  rw [u16_of_bytes hlow hhigh hn, clampNat_of_mem h]

theorem clampInt_s16 {lo hi x : Int} (h : lo ≤ x ∧ x ≤ hi) (hlow : byteAt p i = byteOf (x % 65536).toNat)
    (hhigh : byteAt p (i + 1) = byteOf ((x % 65536).toNat / 256)) (hx : -32768 ≤ x ∧ x ≤ 32767 := by omega) :
    clampInt lo hi (s16 p i) = x := by
  rw [s16_of_bytes hlow hhigh hx, clampInt_of_mem h]

theorem level_u16 {x : BitVec 10} (hlow : byteAt p i = byteOf x.toNat) (hhigh : byteAt p (i + 1) = byteOf (x.toNat / 256)) :
    level (clampNat 0 1023 (u16 p i)) = x := by
  have hx : x.toNat < 1024 := x.isLt
  rw [clampNat_u16 (by omega) hlow hhigh, level, BitVec.ofNat_toNat, BitVec.setWidth_eq]

theorem bitVec_u8 {w : Nat} {x : BitVec w} (hw : 2 ^ w ≤ 256) (hbyte : byteAt p i = byteOf x.toNat) : BitVec.ofNat w (u8 p i) = x := by
  rw [u8_of_byte hbyte (x.isLt.trans_le hw), BitVec.ofNat_toNat, BitVec.setWidth_eq]

theorem finOfNat_u8 {k : Nat} [NeZero k] {x : Fin k} (hk : k ≤ 256) (hbyte : byteAt p i = byteOf x.val) : Fin.ofNat k (u8 p i) = x := by
  rw [u8_of_byte hbyte (x.isLt.trans_le hk), Fin.ofNat_val_eq_self]

theorem u8_bit {b : Bool} (hbyte : byteAt p i = byteOf (bit b)) : u8 p i = bit b :=
  u8_of_byte hbyte ((bit_le_one b).trans_lt (by decide))

end

/-! ## View header and tile -/

theorem readViewHeader_encodeViewHeader {h : ViewHeader} (hrange : h.InRange) : readViewHeader (encodeViewHeader h) = .ok h := by
  obtain ⟨hcolumns, hrows⟩ := hrange
  have hlabel : u16 (encodeViewHeader h) 15 = h.label.toNat := u16_of_bytes rfl rfl h.label.isLt
  have hback : colourAt (encodeViewHeader h) 2 = h.background := by
    rw [colourAt, level_u16 (x := h.background.y) rfl rfl, level_u16 (x := h.background.cb) rfl rfl,
      level_u16 (x := h.background.cr) rfl rfl]
  have hfault : colourAt (encodeViewHeader h) 8 = h.fault := by
    rw [colourAt, level_u16 (x := h.fault.y) rfl rfl, level_u16 (x := h.fault.cb) rfl rfl, level_u16 (x := h.fault.cr) rfl rfl]
  rw [readViewHeader_of_hatch (hatch := h.hatch) (u8_bit rfl), clampedViewHeader, clampNat_u8 hcolumns rfl, clampNat_u8 hrows rfl, hback,
    hfault, hlabel, BitVec.ofNat_toNat, BitVec.setWidth_eq]

theorem tileCamera?_code (c : Option Camera) : tileCamera? (tileCameraCode c) = some c := by
  cases c with
  | none => rfl
  | some c => exact (tileCamera?_eq_some_iff _ _).mpr (.inr ⟨c, rfl, rfl⟩)

theorem tileCameraCode_lt (c : Option Camera) : tileCameraCode c < 256 := by
  cases c with
  | none => decide
  | some c => exact c.isLt.trans (by decide)

theorem coordAt_of_bytes {p : List Byte} {i : Nat} {c : Coord} (h : c.u ≤ 32767 ∧ c.v ≤ 32767) (h0 : byteAt p i = byteOf c.u)
    (h1 : byteAt p (i + 1) = byteOf (c.u / 256)) (h2 : byteAt p (i + 2) = byteOf c.v) (h3 : byteAt p (i + 2 + 1) = byteOf (c.v / 256)) :
    coordAt p i = c := by
  obtain ⟨hu, hv⟩ := h
  rw [coordAt, clampNat_u16 ⟨Nat.zero_le _, hu⟩ h0 h1, clampNat_u16 ⟨Nat.zero_le _, hv⟩ h2 h3]

theorem cornersAt_encodeCorners {c : Corners Coord} (back : List Byte) (h : c.CoordsInRange) : cornersAt (encodeCorners c ++ back) 0 = c := by
  obtain ⟨h00, h10, h01, h11⟩ := h
  rw [cornersAt, coordAt_of_bytes h00 rfl rfl rfl rfl, coordAt_of_bytes h10 rfl rfl rfl rfl, coordAt_of_bytes h01 rfl rfl rfl rfl,
    coordAt_of_bytes h11 rfl rfl rfl rfl]

theorem cornersAt_drop (p : List Byte) (k : Nat) : cornersAt p k = cornersAt (p.drop k) 0 := by
  simp only [cornersAt, coordAt, u16_drop, Nat.add_assoc, Nat.zero_add, Nat.add_zero, Nat.reduceAdd]

theorem weightsAt_encodeTile {r : TileRecord}
    (h : r.weights.c00 ≤ 256 ∧ r.weights.c10 ≤ 256 ∧ r.weights.c01 ≤ 256 ∧ r.weights.c11 ≤ 256) :
    Corners.mk (clampNat 0 256 (u16 (encodeTile r) 34)) (clampNat 0 256 (u16 (encodeTile r) 36)) (clampNat 0 256 (u16 (encodeTile r) 38))
      (clampNat 0 256 (u16 (encodeTile r) 40)) = r.weights := by
  obtain ⟨h00, h10, h01, h11⟩ := h
  rw [clampNat_u16 ⟨Nat.zero_le _, h00⟩ rfl rfl, clampNat_u16 ⟨Nat.zero_le _, h10⟩ rfl rfl, clampNat_u16 ⟨Nat.zero_le _, h01⟩ rfl rfl,
    clampNat_u16 ⟨Nat.zero_le _, h11⟩ rfl rfl]

theorem readTile_encodeTile {r : TileRecord} (h : r.InRange) : readTile (encodeTile r) = .ok r := by
  obtain ⟨hprimary, hsecondary, hweights⟩ := h
  have hcamera : tileCamera? (u8 (encodeTile r) 0) = some r.primary := by
    rw [u8_of_byte (n := tileCameraCode r.primary) rfl (tileCameraCode_lt _), tileCamera?_code]
  have hother : tileCamera? (u8 (encodeTile r) 1) = some r.secondary := by
    rw [u8_of_byte (n := tileCameraCode r.secondary) rfl (tileCameraCode_lt _), tileCamera?_code]
  have hfirst : cornersAt (encodeTile r) 2 = r.primaryCorners :=
    (cornersAt_drop _ 2).trans (cornersAt_encodeCorners _ hprimary)
  have hsecond : cornersAt (encodeTile r) 18 = r.secondaryCorners :=
    (cornersAt_drop _ 18).trans (cornersAt_encodeCorners _ hsecondary)
  rw [readTile_of_cameras hcamera hother, clampedTile, hfirst, hsecond,
    weightsAt_encodeTile hweights]

/-! ## Camera record -/

theorem cadence?_code (c : ExpectedCadence) : cadence? c.code = some c := by
  cases c <;> rfl

theorem ExpectedCadence.code_lt (c : ExpectedCadence) : c.code < 256 := by
  cases c <;> decide

theorem clampFreeze_of_mem {n : Nat} (h : n = 0 ∨ 2 ≤ n ∧ n ≤ 15) : clampFreeze n = n := by
  rw [clampFreeze]
  rcases h with rfl | h
  · rfl
  · rw [if_neg (by omega), clampNat_of_mem h]

theorem slotBytes_encodeCameraRecord {r : CameraRecord} (h : r.slotList.length ≤ 4) :
    slotBytes (encodeCameraRecord r) = r.slotList.map Fin.val := by
  have hcount : u8 (encodeCameraRecord r) 16 = r.slotList.length := u8_of_byte rfl (by omega)
  apply List.ext_getElem
  · rw [slotBytes_length, hcount, List.length_map]
  · intro i _ hi
    rw [List.length_map] at hi
    have hbyte : byteAt (padTo 4 (r.slotList.map fun k => byteOf k.val)) i = byteOf r.slotList[i].val := by
      rw [padTo, byteAt_append_left _ (by rwa [List.length_map]), byteAt, List.getD_eq_getElem _ _ (by rwa [List.length_map]),
        List.getElem_map]
    have hslot : u8 (encodeCameraRecord r) (17 + i) = r.slotList[i].val :=
      (u8_drop _ 17 i).symm.trans (u8_of_byte hbyte (by omega))
    simp only [slotBytes, List.getElem_map, List.getElem_range, hslot]

theorem slotListFormed_map_val {l : List SlotNo} (h : 1 ≤ l.length ∧ l.length ≤ 4 ∧ l.Nodup) : slotListFormed (l.map Fin.val) = true := by
  obtain ⟨hpos, hle, hnodup⟩ := h
  have hsmall : ∀ n ∈ l.map Fin.val, n ≤ 15 := by
    intro n hn
    obtain ⟨k, -, rfl⟩ := List.mem_map.mp hn
    omega
  simp only [slotListFormed, Bool.and_eq_true, decide_eq_true_eq, List.all_eq_true, List.length_map]
  exact ⟨⟨⟨hpos, hle⟩, hsmall⟩, hnodup.map Fin.val_injective⟩

theorem map_ofNat_map_val (l : List SlotNo) : (l.map Fin.val).map (Fin.ofNat 16) = l := by
  rw [List.map_map]
  exact (List.map_congr_left fun k _ => Fin.ofNat_val_eq_self k).trans (List.map_id l)

theorem clampedCameraRecord_encodeCameraRecord {r : CameraRecord} (h : r.InRange) :
    clampedCameraRecord (encodeCameraRecord r) r.cadence = r := by
  obtain ⟨⟨hwlow, hwhigh, heven⟩, hheight, hstale, hloss, hfreeze, hgain, hoffset, hslots⟩ := h
  have hwidth : clampWidth (u16 (encodeCameraRecord r) 0) = r.width := by
    rw [clampWidth, clampNat_u16 ⟨hwlow, hwhigh⟩ rfl rfl]
    omega
  have hcount : u8 (encodeCameraRecord r) 9 = r.freezeCount := u8_of_byte rfl (by omega)
  rw [clampedCameraRecord, hwidth, hcount, clampFreeze_of_mem hfreeze, slotBytes_encodeCameraRecord hslots.2.1, map_ofNat_map_val,
    clampNat_u16 hheight rfl rfl, clampNat_u16 hstale rfl rfl, clampNat_u16 hloss rfl rfl,
    clampNat_u16 ⟨Nat.zero_le _, hgain⟩ rfl rfl, clampInt_s16 hoffset rfl rfl, bitVec_u8 (x := r.keepMask) (by decide) rfl,
    bitVec_u8 (x := r.haltMask) (by decide) rfl]

theorem readCameraRecord_encodeCameraRecord {r : CameraRecord} (h : r.InRange) : readCameraRecord (encodeCameraRecord r) = .ok r := by
  have hcadence : cadence? (u8 (encodeCameraRecord r) 4) = some r.cadence := by
    rw [u8_of_byte (n := r.cadence.code) rfl r.cadence.code_lt, cadence?_code]
  have hkeep : u8 (encodeCameraRecord r) 10 < 64 := by
    rw [u8_of_byte (n := r.keepMask.toNat) rfl (by omega)]
    exact r.keepMask.isLt
  have hhalt : u8 (encodeCameraRecord r) 11 < 64 := by
    rw [u8_of_byte (n := r.haltMask.toNat) rfl (by omega)]
    exact r.haltMask.isLt
  have hslots : slotListFormed (slotBytes (encodeCameraRecord r)) = true := by
    rw [slotBytes_encodeCameraRecord h.slots.2.1]
    exact slotListFormed_map_val h.slots
  rw [readCameraRecord, hcadence]
  exact (if_pos ⟨hkeep, hhalt, hslots⟩).trans (congrArg Except.ok (clampedCameraRecord_encodeCameraRecord h))

/-! ## Overlay element, palette entry and path band -/

theorem elementKind?_code (k : ElementKind) : elementKind? k.code = some k := by
  cases k <;> rfl

theorem ElementKind.code_lt (k : ElementKind) : k.code < 256 := by
  cases k <;> decide

theorem readCondition_code (c : Condition) : readCondition c.code.1 c.code.2 = .ok c := by
  cases c with
  | zone x | cameraFault x | body x => simp [Condition.code, readCondition]
  | always | indicatorNearside | reverse => rfl

theorem Condition.code_lt (c : Condition) : c.code.1 < 256 ∧ c.code.2 < 256 := by
  cases c with
  | zone x | cameraFault x | body x => exact ⟨by simp [Condition.code], x.isLt.trans (by decide)⟩
  | always | indicatorNearside | reverse => exact ⟨by decide, by decide⟩

theorem clampedElement_encodeElement {e : Element} (h : e.InRange) :
    clampedElement (encodeElement e) e.kind e.condition e.negate = e := by
  obtain ⟨⟨hxlow, hxhigh, hylow, hyhigh⟩, ⟨hw, hh⟩, hthickness, hoffset, hwlow, hwhigh, hhlow, hhhigh⟩ := h
  rw [clampedElement, clampInt_s16 ⟨hxlow, hxhigh⟩ rfl rfl, clampInt_s16 ⟨hylow, hyhigh⟩ rfl rfl,
    clampNat_u16 ⟨Nat.zero_le _, hw⟩ rfl rfl, clampNat_u16 ⟨Nat.zero_le _, hh⟩ rfl rfl, clampNat_u8 hthickness rfl,
    finOfNat_u8 (x := e.palette) (by decide) rfl, clampNat_u16 ⟨Nat.zero_le _, hoffset⟩ rfl rfl,
    clampNat_u16 ⟨hwlow, hwhigh⟩ rfl rfl, clampNat_u16 ⟨hhlow, hhhigh⟩ rfl rfl, finOfNat_u8 (x := e.paletteBase) (by decide) rfl]
  rfl

theorem readElement_encodeElement {e : Element} (h : e.InRange) : readElement (encodeElement e) = .ok e := by
  have hkind : elementKind? (u8 (encodeElement e) 0) = some e.kind := by
    rw [u8_of_byte (n := e.kind.code) rfl e.kind.code_lt, elementKind?_code]
  have hcondition : readCondition (u8 (encodeElement e) 1) (u8 (encodeElement e) 2) = .ok e.condition := by
    rw [u8_of_byte (n := e.condition.code.1) rfl e.condition.code_lt.1, u8_of_byte (n := e.condition.code.2) rfl e.condition.code_lt.2,
      readCondition_code]
  have hnegate : onOff? (u8 (encodeElement e) 3) = some e.negate := (onOff?_eq_some_iff _ _).mpr (u8_bit rfl)
  have hpalette : u8 (encodeElement e) 13 = e.palette.val := u8_of_byte rfl (by omega)
  have hbase : u8 (encodeElement e) 20 = e.paletteBase.val := u8_of_byte rfl (by omega)
  have hindex : elementIndexesOk (encodeElement e) = true := by
    rw [elementIndexesOk, hcondition, hpalette, hbase]
    simp only [Bool.and_eq_true, decide_eq_true_eq]
    exact ⟨⟨by omega, by omega⟩, nofun⟩
  rw [readElement, if_pos hindex, hkind, hcondition, hnegate]
  exact congrArg Except.ok (clampedElement_encodeElement h)

theorem readPalette_encodePalette {e : PaletteEntry} (h : e.alpha ≤ 16) : readPalette (encodePalette e) = e := by
  rw [readPalette, colourAt, level_u16 (x := e.colour.y) rfl rfl, level_u16 (x := e.colour.cb) rfl rfl,
    level_u16 (x := e.colour.cr) rfl rfl, clampNat_u8 ⟨Nat.zero_le _, h⟩ rfl]

theorem spanAt_drop (p : List Byte) (k : Nat) : spanAt p k = spanAt (p.drop k) 0 := by
  simp only [spanAt, s16_drop, u16_drop, Nat.zero_add, Nat.add_zero]

theorem spanAt_encodeSpan {x : Span} (back : List Byte) (h : x.InRange) : spanAt (encodeSpan x ++ back) 0 = x := by
  obtain ⟨hstart, hcount, hleft, hright⟩ := h
  rw [spanAt, clampInt_s16 hstart rfl rfl, clampNat_u16 ⟨Nat.zero_le _, hcount⟩ rfl rfl, clampInt_s16 hleft rfl rfl,
    clampInt_s16 hright rfl rfl]

theorem length_flatMap_encodeSpan (l : List Span) : (l.flatMap encodeSpan).length = 8 * l.length := by
  induction l with
  | nil => rfl
  | cons x xs ih =>
    rw [List.flatMap_cons, List.length_append, ih, List.length_cons, show (encodeSpan x).length = 8 from rfl]
    omega

theorem drop_flatMap_encodeSpan (l : List Span) (i : Nat) : (l.flatMap encodeSpan).drop (8 * i) = (l.drop i).flatMap encodeSpan := by
  induction l generalizing i with
  | nil => rw [List.drop_nil, List.flatMap_nil, List.drop_nil]
  | cons x xs ih =>
    cases i with
    | zero => rfl
    | succ i => exact ih i

theorem spanAt_encodeBand {l : List Span} {i : Nat} (hi : i < l.length) (h : l[i].InRange) :
    spanAt (encodeBand l) (1 + 8 * i) = l[i] := by
  have hle : 8 * i ≤ (l.flatMap encodeSpan).length := by
    rw [length_flatMap_encodeSpan]
    omega
  rw [spanAt_drop, encodeBand, padTo, List.cons_append, Nat.add_comm, List.drop_succ_cons, List.drop_append_of_le_length hle,
    drop_flatMap_encodeSpan, List.drop_eq_getElem_cons hi, List.flatMap_cons, List.append_assoc]
  exact spanAt_encodeSpan _ h

theorem readBand_encodeBand {l : List Span} (hlen : l.length ≤ 7) (h : ∀ x ∈ l, x.InRange) : readBand (encodeBand l) = .ok l := by
  have hcount : u8 (encodeBand l) 0 = l.length := u8_of_byte rfl (by omega)
  rw [readBand, hcount, if_pos hlen]
  congr 1
  apply List.ext_getElem
  · rw [List.length_map, List.length_range]
  · intro i _ hi
    rw [List.getElem_map, List.getElem_range, spanAt_encodeBand hi (h _ (List.getElem_mem hi))]

/-! ## Rule, zone record and signal timeouts -/

/-- The bytes of a rule from its steer condition on stand at offset 8 whatever its speed condition is. -/
theorem drop_encodeRule_steer (r : Rule) : (encodeRule r).drop 8 =
    encodeSteer r.steer ++ [r.bodyValue, r.bodyMask, byteOf r.target.val, byteOf (bit r.immediate)] := by
  cases hspeed : r.speed <;> rw [encodeRule, hspeed] <;> rfl

/-- The bytes of a rule after its two conditions. -/
theorem drop_encodeRule_body (r : Rule) : (encodeRule r).drop 13 =
    [r.bodyValue, r.bodyMask, byteOf r.target.val, byteOf (bit r.immediate)] := by
  show (encodeRule r).drop (8 + 5) = _
  rw [← List.drop_drop, drop_encodeRule_steer]
  cases r.steer <;> rfl

theorem speedCondition?_encodeRule {r : Rule} (h : r.InRange) : speedCondition? (encodeRule r) = some r.speed := by
  cases hspeed : r.speed with
  | any =>
    have hform : u8 (encodeRule r) 3 = 0 := by rw [encodeRule, hspeed]; rfl
    exact speedCondition?_any hform
  | range low high =>
    obtain ⟨hlow, hhigh⟩ := h.speed low high hspeed
    have hform : u8 (encodeRule r) 3 = 1 := by rw [encodeRule, hspeed]; rfl
    have hfirst : u16 (encodeRule r) 4 = low := by
      rw [encodeRule, hspeed]
      exact u16_of_bytes rfl rfl (by omega)
    have hsecond : u16 (encodeRule r) 6 = high := by
      rw [encodeRule, hspeed]
      exact u16_of_bytes rfl rfl (by omega)
    rw [speedCondition?_range hform, hfirst, hsecond, Nat.min_eq_right hlow, Nat.min_eq_right hhigh]

theorem steerCondition?_encodeRule {r : Rule} (h : r.InRange) : steerCondition? (encodeRule r) = some r.steer := by
  have hbytes := drop_encodeRule_steer r
  cases hsteer : r.steer with
  | any =>
    have hform : u8 (encodeRule r) 8 = 0 := by
      rw [← u8_drop _ 8 0, hbytes, hsteer]
      rfl
    exact steerCondition?_any hform
  | range low high =>
    obtain ⟨hlow, hhigh⟩ := h.steer low high hsteer
    have hform : u8 (encodeRule r) 8 = 1 := by
      rw [← u8_drop _ 8 0, hbytes, hsteer]
      rfl
    have hfirst : s16 (encodeRule r) 9 = low := by
      rw [← s16_drop _ 8 1, hbytes, hsteer]
      exact s16_of_bytes rfl rfl (by omega)
    have hsecond : s16 (encodeRule r) 11 = high := by
      rw [← s16_drop _ 8 3, hbytes, hsteer]
      exact s16_of_bytes rfl rfl (by omega)
    rw [steerCondition?, hform, hfirst, hsecond]
    exact congrArg some (congrArg₂ _ (clampInt_of_mem hlow) (clampInt_of_mem hhigh))

theorem u8_encodeRule_body (r : Rule) : byteAt (encodeRule r) 13 = r.bodyValue ∧ byteAt (encodeRule r) 14 = r.bodyMask ∧
    u8 (encodeRule r) 15 = r.target.val ∧ u8 (encodeRule r) 16 = bit r.immediate := by
  have hbytes := drop_encodeRule_body r
  refine ⟨BitVec.eq_of_toNat_eq ?_, BitVec.eq_of_toNat_eq ?_, ?_, ?_⟩
  · show u8 (encodeRule r) 13 = _
    rw [← u8_drop _ 13 0, hbytes]
    rfl
  · show u8 (encodeRule r) 14 = _
    rw [← u8_drop _ 13 1, hbytes]
    rfl
  · rw [← u8_drop _ 13 2, hbytes]
    exact u8_of_byte rfl (by omega)
  · rw [← u8_drop _ 13 3, hbytes]
    exact u8_bit rfl

theorem readRule_encodeRule {r : Rule} (h : r.InRange) : readRule (encodeRule r) = .ok r := by
  obtain ⟨hvalue, hmask, htarget, himmediate⟩ := u8_encodeRule_body r
  have henable : onOff? (u8 (encodeRule r) 0) = some r.enable := (onOff?_eq_some_iff _ _).mpr (u8_bit rfl)
  rw [readRule, htarget, toFin?_val, henable, (onOff?_eq_some_iff _ _).mpr himmediate, speedCondition?_encodeRule h,
    steerCondition?_encodeRule h]
  refine congrArg Except.ok ?_
  rw [hvalue, hmask, bitVec_u8 (x := r.gearSet) (by decide) rfl, bitVec_u8 (x := r.indicatorSet) (by decide) rfl]

theorem clampedZoneRecord_encodeZoneRecord {r : ZoneRecord} (h : r.InRange) : clampedZoneRecord (encodeZoneRecord r) r.enable = r := by
  obtain ⟨⟨hx0, hx1⟩, ⟨hy0, hy1⟩, hthreshold, htrigger, hconfirm, hhold, hshift⟩ := h
  rw [clampedZoneRecord, clampNat_u8 ⟨Nat.zero_le _, hx0⟩ rfl, clampNat_u8 ⟨Nat.zero_le _, hx1⟩ rfl, clampNat_u8 ⟨Nat.zero_le _, hy0⟩ rfl,
    clampNat_u8 ⟨Nat.zero_le _, hy1⟩ rfl, clampNat_u16 ⟨Nat.zero_le _, hthreshold⟩ rfl rfl, clampNat_u8 htrigger rfl,
    clampNat_u8 hconfirm rfl, clampNat_u16 ⟨Nat.zero_le _, hhold⟩ rfl rfl, clampNat_u8 hshift rfl]
  rfl

theorem readZoneRecord_encodeZoneRecord {r : ZoneRecord} (h : r.InRange) : readZoneRecord (encodeZoneRecord r) = .ok r := by
  have henable : onOff? (u8 (encodeZoneRecord r) 0) = some r.enable := (onOff?_eq_some_iff _ _).mpr (u8_bit rfl)
  rw [readZoneRecord, henable]
  exact congrArg Except.ok (clampedZoneRecord_encodeZoneRecord h)

theorem readTimeouts_encodeTimeouts {r : SignalTimeouts} (hsteer : TimeoutInRange r.steer) (hspeed : TimeoutInRange r.speed)
    (hgear : TimeoutInRange r.gear) (hindicator : TimeoutInRange r.indicator) (hbody : TimeoutInRange r.body) :
    readTimeouts (encodeTimeouts r) = r := by
  have hsmall {ms : Nat} (h : TimeoutInRange ms) : ms < 65536 := h.2.trans_lt (by decide)
  rw [readTimeouts, clampNat_u16 hsteer rfl rfl (hsmall hsteer), clampNat_u16 hspeed rfl rfl (hsmall hspeed),
    clampNat_u16 hgear rfl rfl (hsmall hgear), clampNat_u16 hindicator rfl rfl (hsmall hindicator),
    clampNat_u16 hbody rfl rfl (hsmall hbody)]

/-! ## Lengths of the layouts -/

theorem encodeCameraRecord_length {c : CameraRecord} (h : c.slotList.length ≤ 4) : (encodeCameraRecord c).length = 21 := by
  rw [encodeCameraRecord, List.length_append, padTo_length (by rwa [List.length_map])]
  rfl

theorem encodeBand_length {l : List Span} (h : l.length ≤ 7) : (encodeBand l).length = 57 := by
  rw [encodeBand, padTo_length]
  rw [List.length_cons, length_flatMap_encodeSpan]
  omega

theorem encodeRule_length (r : Rule) : (encodeRule r).length = 17 := by
  cases hspeed : r.speed <;> cases hsteer : r.steer <;> rw [encodeRule, hspeed, hsteer] <;> rfl

/-- Settles O54: the message's bytes, each record's own layout, and the lengths. -/
theorem decodingReversesEncoding : Obligations.DecodingReversesEncoding := by
  refine ⟨fun m => decodeMessage_encodeMessage, fun bytes m => encodeMessage_decodeMessage, fun r => readCameraRecord_encodeCameraRecord,
    fun h => readViewHeader_encodeViewHeader, fun r => readTile_encodeTile, fun e => readElement_encodeElement,
    fun e => readPalette_encodePalette, fun l => readBand_encodeBand, fun r => readRule_encodeRule,
    fun r => readZoneRecord_encodeZoneRecord, fun r => readTimeouts_encodeTimeouts, fun v dwell hdwell => ?settings,
    fun c h i e p hslots => ⟨encodeCameraRecord_length hslots, rfl, rfl, rfl, rfl⟩,
    fun l r v dwell z o hspans => ⟨encodeBand_length hspans, encodeRule_length r, rfl, rfl, rfl⟩⟩
  case settings => exact ⟨u8_of_byte rfl (by omega), u16_of_bytes rfl rfl (by omega)⟩

end Sys2Proof.Machine
end
